-- ==== Sys2Proof/Word.lean ====
section
/-! DEFINITION. The value types of the block (00_scope.md R3) and the two small closed sets of names
that instructions and state share: the register selector (10_state.md R11) and the flags (R15). -/

namespace Sys2Proof

/-- "Byte = unsigned 8 bits" (00_scope.md R3). -/
abbrev Byte := BitVec 8

/-- "Word = unsigned 16 bits" (00_scope.md R3). -/
abbrev Word := BitVec 16

/-- The register selector, "a tagged value {A, X, Y}" (10_state.md R11). -/
inductive Reg where
  | a
  | x
  | y
  deriving DecidableEq, Repr

/-- The six flags by name (10_state.md R15). -/
inductive Flag where
  | carry
  | zero
  | interruptDisable
  | decimal
  | overflow
  | negative
  deriving DecidableEq, Repr

end Sys2Proof
end

