-- ==== Sys2Proof/Syntax.lean ====
section
/-! DEFINITION. The instructions: one constructor for each of the 70 rows of opcode_table.json
(30_encoding.md R58). The constructor's name is the row's mnemonic with its addressing mode; its one
argument is the raw operand the mode descriptor carries (R54, R56, R65): `imm` a value, `a` an
address or a page-zero base, `off` a signed displacement kept raw. The combinations outside the
table of 40_addressing_modes.md R85 cannot be written down (R86). -/

namespace Sys2Proof

/-- A decoded instruction (30_encoding.md R57, R58), in the order of the family files. -/
inductive Instr where
  /-- `BRK`, opcode 0x00 (41_break_clear.md R90). -/
  | brk
  /-- `CLC`, opcode 0x18 (41_break_clear.md R92). -/
  | clc
  /-- `CLD`, opcode 0xD8 (41_break_clear.md R93). -/
  | cld
  /-- `CLI`, opcode 0x58 (41_break_clear.md R94). -/
  | cli
  /-- `CLV`, opcode 0xB8 (41_break_clear.md R95). -/
  | clv
  /-- `LDA #$nn`, opcode 0xA9 (42_load_transfer_increment.md R101). -/
  | ldaImmediate (imm : Byte)
  /-- `LDA $nn`, opcode 0xA5 (42_load_transfer_increment.md R102). -/
  | ldaZeroPage (a : Byte)
  /-- `LDA $nn,X`, opcode 0xB5 (42_load_transfer_increment.md R103). -/
  | ldaZeroPageX (a : Byte)
  /-- `LDA $nnnn`, opcode 0xAD (42_load_transfer_increment.md R104). -/
  | ldaAbsolute (a : Word)
  /-- `LDA $nnnn,X`, opcode 0xBD (42_load_transfer_increment.md R105). -/
  | ldaAbsoluteX (a : Word)
  /-- `LDA $nnnn,Y`, opcode 0xB9 (42_load_transfer_increment.md R106). -/
  | ldaAbsoluteY (a : Word)
  /-- `LDA ($nn,X)`, opcode 0xA1 (42_load_transfer_increment.md R107). -/
  | ldaIndirectX (a : Byte)
  /-- `LDA ($nn),Y`, opcode 0xB1 (42_load_transfer_increment.md R108). -/
  | ldaIndirectY (a : Byte)
  /-- `LDX #$nn`, opcode 0xA2 (42_load_transfer_increment.md R109). -/
  | ldxImmediate (imm : Byte)
  /-- `LDX $nn`, opcode 0xA6 (42_load_transfer_increment.md R110). -/
  | ldxZeroPage (a : Byte)
  /-- `LDX $nn,Y`, opcode 0xB6 (42_load_transfer_increment.md R111). -/
  | ldxZeroPageY (a : Byte)
  /-- `LDX $nnnn`, opcode 0xAE (42_load_transfer_increment.md R112). -/
  | ldxAbsolute (a : Word)
  /-- `LDX $nnnn,Y`, opcode 0xBE (42_load_transfer_increment.md R113). -/
  | ldxAbsoluteY (a : Word)
  /-- `LDY #$nn`, opcode 0xA0 (42_load_transfer_increment.md R114). -/
  | ldyImmediate (imm : Byte)
  /-- `LDY $nn`, opcode 0xA4 (42_load_transfer_increment.md R115). -/
  | ldyZeroPage (a : Byte)
  /-- `LDY $nn,X`, opcode 0xB4 (42_load_transfer_increment.md R116). -/
  | ldyZeroPageX (a : Byte)
  /-- `LDY $nnnn`, opcode 0xAC (42_load_transfer_increment.md R117). -/
  | ldyAbsolute (a : Word)
  /-- `LDY $nnnn,X`, opcode 0xBC (42_load_transfer_increment.md R118). -/
  | ldyAbsoluteX (a : Word)
  /-- `TAX`, opcode 0xAA (42_load_transfer_increment.md R120). -/
  | tax
  /-- `INX`, opcode 0xE8 (42_load_transfer_increment.md R122). -/
  | inx
  /-- `ADC #$nn`, opcode 0x69 (43_arithmetic_logic.md R131). -/
  | adcImmediate (imm : Byte)
  /-- `ADC $nn`, opcode 0x65 (43_arithmetic_logic.md R132). -/
  | adcZeroPage (a : Byte)
  /-- `ADC $nn,X`, opcode 0x75 (43_arithmetic_logic.md R133). -/
  | adcZeroPageX (a : Byte)
  /-- `ADC $nnnn`, opcode 0x6D (43_arithmetic_logic.md R134). -/
  | adcAbsolute (a : Word)
  /-- `ADC $nnnn,X`, opcode 0x7D (43_arithmetic_logic.md R135). -/
  | adcAbsoluteX (a : Word)
  /-- `ADC $nnnn,Y`, opcode 0x79 (43_arithmetic_logic.md R136). -/
  | adcAbsoluteY (a : Word)
  /-- `ADC ($nn,X)`, opcode 0x61 (43_arithmetic_logic.md R137). -/
  | adcIndirectX (a : Byte)
  /-- `ADC ($nn),Y`, opcode 0x71 (43_arithmetic_logic.md R138). -/
  | adcIndirectY (a : Byte)
  /-- `AND #$nn`, opcode 0x29 (43_arithmetic_logic.md R140). -/
  | andImmediate (imm : Byte)
  /-- `AND $nn`, opcode 0x25 (43_arithmetic_logic.md R141). -/
  | andZeroPage (a : Byte)
  /-- `AND $nn,X`, opcode 0x35 (43_arithmetic_logic.md R142). -/
  | andZeroPageX (a : Byte)
  /-- `AND $nnnn`, opcode 0x2D (43_arithmetic_logic.md R143). -/
  | andAbsolute (a : Word)
  /-- `AND $nnnn,X`, opcode 0x3D (43_arithmetic_logic.md R144). -/
  | andAbsoluteX (a : Word)
  /-- `AND $nnnn,Y`, opcode 0x39 (43_arithmetic_logic.md R145). -/
  | andAbsoluteY (a : Word)
  /-- `AND ($nn,X)`, opcode 0x21 (43_arithmetic_logic.md R146). -/
  | andIndirectX (a : Byte)
  /-- `AND ($nn),Y`, opcode 0x31 (43_arithmetic_logic.md R147). -/
  | andIndirectY (a : Byte)
  /-- `ASL A`, opcode 0x0A (43_arithmetic_logic.md R149). -/
  | aslAccumulator
  /-- `ASL $nn`, opcode 0x06 (43_arithmetic_logic.md R150). -/
  | aslZeroPage (a : Byte)
  /-- `ASL $nn,X`, opcode 0x16 (43_arithmetic_logic.md R151). -/
  | aslZeroPageX (a : Byte)
  /-- `ASL $nnnn`, opcode 0x0E (43_arithmetic_logic.md R152). -/
  | aslAbsolute (a : Word)
  /-- `ASL $nnnn,X`, opcode 0x1E (43_arithmetic_logic.md R153). -/
  | aslAbsoluteX (a : Word)
  /-- `BIT $nn`, opcode 0x24 (43_arithmetic_logic.md R155). -/
  | bitZeroPage (a : Byte)
  /-- `BIT $nnnn`, opcode 0x2C (43_arithmetic_logic.md R156). -/
  | bitAbsolute (a : Word)
  /-- `BCC rel`, opcode 0x90 (44_branch.md R161). -/
  | bcc (off : Byte)
  /-- `BCS rel`, opcode 0xB0 (44_branch.md R162). -/
  | bcs (off : Byte)
  /-- `BEQ rel`, opcode 0xF0 (44_branch.md R163). -/
  | beq (off : Byte)
  /-- `BMI rel`, opcode 0x30 (44_branch.md R164). -/
  | bmi (off : Byte)
  /-- `BNE rel`, opcode 0xD0 (44_branch.md R165). -/
  | bne (off : Byte)
  /-- `BPL rel`, opcode 0x10 (44_branch.md R166). -/
  | bpl (off : Byte)
  /-- `BVC rel`, opcode 0x50 (44_branch.md R167). -/
  | bvc (off : Byte)
  /-- `BVS rel`, opcode 0x70 (44_branch.md R168). -/
  | bvs (off : Byte)
  /-- `CMP #$nn`, opcode 0xC9 (45_compare.md R171). -/
  | cmpImmediate (imm : Byte)
  /-- `CMP $nn`, opcode 0xC5 (45_compare.md R172). -/
  | cmpZeroPage (a : Byte)
  /-- `CMP $nn,X`, opcode 0xD5 (45_compare.md R173). -/
  | cmpZeroPageX (a : Byte)
  /-- `CMP $nnnn`, opcode 0xCD (45_compare.md R174). -/
  | cmpAbsolute (a : Word)
  /-- `CMP $nnnn,X`, opcode 0xDD (45_compare.md R175). -/
  | cmpAbsoluteX (a : Word)
  /-- `CMP $nnnn,Y`, opcode 0xD9 (45_compare.md R176). -/
  | cmpAbsoluteY (a : Word)
  /-- `CMP ($nn,X)`, opcode 0xC1 (45_compare.md R177). -/
  | cmpIndirectX (a : Byte)
  /-- `CMP ($nn),Y`, opcode 0xD1 (45_compare.md R178). -/
  | cmpIndirectY (a : Byte)
  /-- `CPX #$nn`, opcode 0xE0 (45_compare.md R179). -/
  | cpxImmediate (imm : Byte)
  /-- `CPX $nn`, opcode 0xE4 (45_compare.md R180). -/
  | cpxZeroPage (a : Byte)
  /-- `CPX $nnnn`, opcode 0xEC (45_compare.md R181). -/
  | cpxAbsolute (a : Word)
  /-- `CPY #$nn`, opcode 0xC0 (45_compare.md R182). -/
  | cpyImmediate (imm : Byte)
  /-- `CPY $nn`, opcode 0xC4 (45_compare.md R183). -/
  | cpyZeroPage (a : Byte)
  /-- `CPY $nnnn`, opcode 0xCC (45_compare.md R184). -/
  | cpyAbsolute (a : Word)
  deriving DecidableEq, Repr

end Sys2Proof
end

