-- ==== Sys2Proof/WellFormed.lean ====
section
/-! DEFINITION. The source's variant tree (30_encoding.md R57) over every mode and every selector, the
check that a combination is one of the table of 40_addressing_modes.md R85, and the variant each
instruction stands for (R66). `Instr` itself admits only the 70 combinations (R86); the tree is the
wider type on which the check can fail. -/

namespace Sys2Proof

/-- The eight modes that have both an effective address and an effective value (40_addressing_modes.md
R70), each carrying only its raw operand (30_encoding.md R65). -/
inductive MemMode where
  | zeroPage (a : Byte)
  | zeroPageX (a : Byte)
  | zeroPageY (a : Byte)
  | absolute (a : Word)
  | absoluteX (a : Word)
  | absoluteY (a : Word)
  | indirectX (a : Byte)
  | indirectY (a : Byte)
  deriving DecidableEq, Repr

/-- The eleven mode descriptors (40_addressing_modes.md R70): the three special ones and the eight of
`MemMode`. Implied is no mode (R87). -/
inductive Mode where
  | accumulator
  | immediate (imm : Byte)
  | relative (off : Byte)
  | mem (m : MemMode)
  deriving DecidableEq, Repr

/-- The eleven families with their selectors and mode (30_encoding.md R57). -/
inductive Variant where
  | brk
  | clear (flag : Flag)
  | ld (dest : Reg) (mode : Mode)
  | trr (origin dest : Reg)
  | inc (dest : Reg)
  | adc (mode : Mode)
  | and (mode : Mode)
  | asl (mode : Mode)
  | bit (mode : Mode)
  | branch (mode : Mode) (flag : Flag) (branchIf : Bool)
  | cmp (register : Reg) (mode : Mode)
  deriving DecidableEq, Repr

/-- The eight modes of Adc, And, LDA and CMP (R85): all that yield a value but ZeroPageY. -/
def Mode.inFullSet : Mode → Bool
  | .immediate _ => true
  | .mem (.zeroPageY _) => false
  | .mem _ => true
  | .accumulator | .relative _ => false

/-- LDX: Immediate, ZeroPage, ZeroPageY, Absolute, AbsoluteY (R85). -/
def Mode.inLdxSet : Mode → Bool
  | .immediate _ | .mem (.zeroPage _) | .mem (.zeroPageY _) | .mem (.absolute _)
  | .mem (.absoluteY _) => true
  | _ => false

/-- LDY: Immediate, ZeroPage, ZeroPageX, Absolute, AbsoluteX (R85). -/
def Mode.inLdySet : Mode → Bool
  | .immediate _ | .mem (.zeroPage _) | .mem (.zeroPageX _) | .mem (.absolute _)
  | .mem (.absoluteX _) => true
  | _ => false

/-- Asl: Accumulator, ZeroPage, ZeroPageX, Absolute, AbsoluteX (R85). -/
def Mode.inAslSet : Mode → Bool
  | .accumulator | .mem (.zeroPage _) | .mem (.zeroPageX _) | .mem (.absolute _)
  | .mem (.absoluteX _) => true
  | _ => false

/-- Bit: ZeroPage, Absolute (R85). -/
def Mode.inBitSet : Mode → Bool
  | .mem (.zeroPage _) | .mem (.absolute _) => true
  | _ => false

/-- CPX and CPY: Immediate, ZeroPage, Absolute (R85). -/
def Mode.inCpxCpySet : Mode → Bool
  | .immediate _ | .mem (.zeroPage _) | .mem (.absolute _) => true
  | _ => false

/-- The combination is one the opcode map reaches (30_encoding.md R57; 40_addressing_modes.md R85). -/
def Variant.wellFormed : Variant → Bool
  | .brk => true
  | .clear f => f == .carry || f == .decimal || f == .interruptDisable || f == .overflow
  | .ld .a m => m.inFullSet
  | .ld .x m => m.inLdxSet
  | .ld .y m => m.inLdySet
  | .trr origin dest => origin == .a && dest == .x
  | .inc dest => dest == .x
  | .adc m => m.inFullSet
  | .and m => m.inFullSet
  | .asl m => m.inAslSet
  | .bit m => m.inBitSet
  | .branch (.relative _) f _ => f == .carry || f == .zero || f == .negative || f == .overflow
  | .branch _ _ _ => false
  | .cmp .a m => m.inFullSet
  | .cmp .x m => m.inCpxCpySet
  | .cmp .y m => m.inCpxCpySet

/-- The family, selectors and mode of each instruction (30_encoding.md R58, R66). -/
def Instr.variant : Instr → Variant
  | .brk => .brk
  | .clc => .clear .carry
  | .cld => .clear .decimal
  | .cli => .clear .interruptDisable
  | .clv => .clear .overflow
  | .ldaImmediate imm => .ld .a (.immediate imm)
  | .ldaZeroPage a => .ld .a (.mem (.zeroPage a))
  | .ldaZeroPageX a => .ld .a (.mem (.zeroPageX a))
  | .ldaAbsolute a => .ld .a (.mem (.absolute a))
  | .ldaAbsoluteX a => .ld .a (.mem (.absoluteX a))
  | .ldaAbsoluteY a => .ld .a (.mem (.absoluteY a))
  | .ldaIndirectX a => .ld .a (.mem (.indirectX a))
  | .ldaIndirectY a => .ld .a (.mem (.indirectY a))
  | .ldxImmediate imm => .ld .x (.immediate imm)
  | .ldxZeroPage a => .ld .x (.mem (.zeroPage a))
  | .ldxZeroPageY a => .ld .x (.mem (.zeroPageY a))
  | .ldxAbsolute a => .ld .x (.mem (.absolute a))
  | .ldxAbsoluteY a => .ld .x (.mem (.absoluteY a))
  | .ldyImmediate imm => .ld .y (.immediate imm)
  | .ldyZeroPage a => .ld .y (.mem (.zeroPage a))
  | .ldyZeroPageX a => .ld .y (.mem (.zeroPageX a))
  | .ldyAbsolute a => .ld .y (.mem (.absolute a))
  | .ldyAbsoluteX a => .ld .y (.mem (.absoluteX a))
  | .tax => .trr .a .x
  | .inx => .inc .x
  | .adcImmediate imm => .adc (.immediate imm)
  | .adcZeroPage a => .adc (.mem (.zeroPage a))
  | .adcZeroPageX a => .adc (.mem (.zeroPageX a))
  | .adcAbsolute a => .adc (.mem (.absolute a))
  | .adcAbsoluteX a => .adc (.mem (.absoluteX a))
  | .adcAbsoluteY a => .adc (.mem (.absoluteY a))
  | .adcIndirectX a => .adc (.mem (.indirectX a))
  | .adcIndirectY a => .adc (.mem (.indirectY a))
  | .andImmediate imm => .and (.immediate imm)
  | .andZeroPage a => .and (.mem (.zeroPage a))
  | .andZeroPageX a => .and (.mem (.zeroPageX a))
  | .andAbsolute a => .and (.mem (.absolute a))
  | .andAbsoluteX a => .and (.mem (.absoluteX a))
  | .andAbsoluteY a => .and (.mem (.absoluteY a))
  | .andIndirectX a => .and (.mem (.indirectX a))
  | .andIndirectY a => .and (.mem (.indirectY a))
  | .aslAccumulator => .asl .accumulator
  | .aslZeroPage a => .asl (.mem (.zeroPage a))
  | .aslZeroPageX a => .asl (.mem (.zeroPageX a))
  | .aslAbsolute a => .asl (.mem (.absolute a))
  | .aslAbsoluteX a => .asl (.mem (.absoluteX a))
  | .bitZeroPage a => .bit (.mem (.zeroPage a))
  | .bitAbsolute a => .bit (.mem (.absolute a))
  | .bcc off => .branch (.relative off) .carry false
  | .bcs off => .branch (.relative off) .carry true
  | .beq off => .branch (.relative off) .zero true
  | .bmi off => .branch (.relative off) .negative true
  | .bne off => .branch (.relative off) .zero false
  | .bpl off => .branch (.relative off) .negative false
  | .bvc off => .branch (.relative off) .overflow false
  | .bvs off => .branch (.relative off) .overflow true
  | .cmpImmediate imm => .cmp .a (.immediate imm)
  | .cmpZeroPage a => .cmp .a (.mem (.zeroPage a))
  | .cmpZeroPageX a => .cmp .a (.mem (.zeroPageX a))
  | .cmpAbsolute a => .cmp .a (.mem (.absolute a))
  | .cmpAbsoluteX a => .cmp .a (.mem (.absoluteX a))
  | .cmpAbsoluteY a => .cmp .a (.mem (.absoluteY a))
  | .cmpIndirectX a => .cmp .a (.mem (.indirectX a))
  | .cmpIndirectY a => .cmp .a (.mem (.indirectY a))
  | .cpxImmediate imm => .cmp .x (.immediate imm)
  | .cpxZeroPage a => .cmp .x (.mem (.zeroPage a))
  | .cpxAbsolute a => .cmp .x (.mem (.absolute a))
  | .cpyImmediate imm => .cmp .y (.immediate imm)
  | .cpyZeroPage a => .cmp .y (.mem (.zeroPage a))
  | .cpyAbsolute a => .cmp .y (.mem (.absolute a))

/-- The operand bytes that follow the opcode, by mode (30_encoding.md R54). -/
def Mode.operandBytes : Mode → Nat
  | .accumulator => 0
  | .immediate _ | .relative _ => 1
  | .mem (.zeroPage _) | .mem (.zeroPageX _) | .mem (.zeroPageY _) => 1
  | .mem (.indirectX _) | .mem (.indirectY _) => 1
  | .mem (.absolute _) | .mem (.absoluteX _) | .mem (.absoluteY _) => 2

/-- Length by mode kind; the families without a mode are one byte long (30_encoding.md R54). -/
def Variant.length : Variant → Nat
  | .brk | .clear _ | .trr _ _ | .inc _ => 1
  | .ld _ m | .adc m | .and m | .asl m | .bit m | .branch m _ _ | .cmp _ m => 1 + m.operandBytes

/-- The instruction's length in bytes, 1, 2 or 3 (30_encoding.md R50, R54). -/
def Instr.length (i : Instr) : Nat := i.variant.length

/-- An instruction is well formed when its variant is one of the table of R85. -/
def Instr.wellFormed (i : Instr) : Bool := i.variant.wellFormed

end Sys2Proof
end

