-- ==== Sys2Proof/Decode.lean ====
section
/-! DEFINITION. The instruction decoder (30_encoding.md): the bit-field helpers, the opcode map of R58 as
a list of rows, the decoder over a list of bytes, and after it the encoder, written from the same
table. The opcode byte alone selects the row; no bit pattern of R62 is extended to other bytes. -/

namespace Sys2Proof

/-- Byte to Word, high byte zero: the notation's `zext_16` (00_scope.md section 8). -/
def zext16 (b : Byte) : Word := b.setWidth 16

/-- Byte to Word by sign extension: the notation's `sext_16` (00_scope.md section 8). -/
def sext16 (b : Byte) : Word := b.signExtend 16

/-- `hi : lo`, the high byte in bits 15..8 (00_scope.md section 8). -/
def joinBytes (hi lo : Byte) : Word := hi ++ lo

/-- `w[7:0]`. -/
def lowByte (w : Word) : Byte := w.setWidth 8

/-- `w[15:8]`. -/
def highByte (w : Word) : Byte := w.extractLsb' 8 8

/-- The three formats (R51 to R53), each with the instruction its operand completes. -/
inductive Format where
  | f1 (i : Instr)
  | f2 (build : Byte → Instr)
  | f3 (build : Word → Instr)

/-- Operand bytes of a format (R54). -/
def Format.operandBytes : Format → Nat
  | .f1 _ => 0
  | .f2 _ => 1
  | .f3 _ => 2

/-- Rows of Break and Clear (41_break_clear.md R90 to R95). -/
def breakClearRows : List (Byte × Format) :=
  [(0x00#8, .f1 .brk), (0x18#8, .f1 .clc),
   (0xD8#8, .f1 .cld), (0x58#8, .f1 .cli),
   (0xB8#8, .f1 .clv)]

/-- Rows of Ld, Trr and In (42_load_transfer_increment.md R101 to R122). -/
def loadRows : List (Byte × Format) :=
  [(0xA9#8, .f2 .ldaImmediate), (0xA5#8, .f2 .ldaZeroPage),
   (0xB5#8, .f2 .ldaZeroPageX), (0xAD#8, .f3 .ldaAbsolute),
   (0xBD#8, .f3 .ldaAbsoluteX), (0xB9#8, .f3 .ldaAbsoluteY),
   (0xA1#8, .f2 .ldaIndirectX), (0xB1#8, .f2 .ldaIndirectY),
   (0xA2#8, .f2 .ldxImmediate), (0xA6#8, .f2 .ldxZeroPage),
   (0xB6#8, .f2 .ldxZeroPageY), (0xAE#8, .f3 .ldxAbsolute),
   (0xBE#8, .f3 .ldxAbsoluteY), (0xA0#8, .f2 .ldyImmediate),
   (0xA4#8, .f2 .ldyZeroPage), (0xB4#8, .f2 .ldyZeroPageX),
   (0xAC#8, .f3 .ldyAbsolute), (0xBC#8, .f3 .ldyAbsoluteX),
   (0xAA#8, .f1 .tax), (0xE8#8, .f1 .inx)]

/-- Rows of Adc and And (43_arithmetic_logic.md R131 to R147). -/
def adcAndRows : List (Byte × Format) :=
  [(0x69#8, .f2 .adcImmediate), (0x65#8, .f2 .adcZeroPage),
   (0x75#8, .f2 .adcZeroPageX), (0x6D#8, .f3 .adcAbsolute),
   (0x7D#8, .f3 .adcAbsoluteX), (0x79#8, .f3 .adcAbsoluteY),
   (0x61#8, .f2 .adcIndirectX), (0x71#8, .f2 .adcIndirectY),
   (0x29#8, .f2 .andImmediate), (0x25#8, .f2 .andZeroPage),
   (0x35#8, .f2 .andZeroPageX), (0x2D#8, .f3 .andAbsolute),
   (0x3D#8, .f3 .andAbsoluteX), (0x39#8, .f3 .andAbsoluteY),
   (0x21#8, .f2 .andIndirectX), (0x31#8, .f2 .andIndirectY)]

/-- Rows of Asl and Bit (43_arithmetic_logic.md R149 to R156). -/
def aslBitRows : List (Byte × Format) :=
  [(0x0A#8, .f1 .aslAccumulator), (0x06#8, .f2 .aslZeroPage),
   (0x16#8, .f2 .aslZeroPageX), (0x0E#8, .f3 .aslAbsolute),
   (0x1E#8, .f3 .aslAbsoluteX), (0x24#8, .f2 .bitZeroPage),
   (0x2C#8, .f3 .bitAbsolute)]

/-- Rows of Branch (44_branch.md R161 to R168). -/
def branchRows : List (Byte × Format) :=
  [(0x90#8, .f2 .bcc), (0xB0#8, .f2 .bcs),
   (0xF0#8, .f2 .beq), (0x30#8, .f2 .bmi),
   (0xD0#8, .f2 .bne), (0x10#8, .f2 .bpl),
   (0x50#8, .f2 .bvc), (0x70#8, .f2 .bvs)]

/-- Rows of Cmp (45_compare.md R171 to R184). -/
def compareRows : List (Byte × Format) :=
  [(0xC9#8, .f2 .cmpImmediate), (0xC5#8, .f2 .cmpZeroPage),
   (0xD5#8, .f2 .cmpZeroPageX), (0xCD#8, .f3 .cmpAbsolute),
   (0xDD#8, .f3 .cmpAbsoluteX), (0xD9#8, .f3 .cmpAbsoluteY),
   (0xC1#8, .f2 .cmpIndirectX), (0xD1#8, .f2 .cmpIndirectY),
   (0xE0#8, .f2 .cpxImmediate), (0xE4#8, .f2 .cpxZeroPage),
   (0xEC#8, .f3 .cpxAbsolute), (0xC0#8, .f2 .cpyImmediate),
   (0xC4#8, .f2 .cpyZeroPage), (0xCC#8, .f3 .cpyAbsolute)]

/-- The opcode map: exactly 70 entries (R58). -/
def opcodeMap : List (Byte × Format) :=
  breakClearRows ++ loadRows ++ adcAndRows
    ++ aslBitRows ++ branchRows ++ compareRows

/-- The entry whose key equals the whole opcode byte, mask 0xFF (R58); `none` for the 186 invalid
bytes (R59). -/
def formatOf (opcode : Byte) : Option Format :=
  (opcodeMap.find? fun row => row.1 == opcode).map (·.2)

/-- Why a list of bytes is not an instruction. `invalidInstructionCode` is the block's (R59). The other
two arise only on a list that is too short, which a fetch from memory never is (log 12). -/
inductive DecodeError where
  /-- No byte at all. -/
  | noOpcode
  /-- The opcode byte is not one of the 70 (R59). -/
  | invalidInstructionCode (code : Byte)
  /-- The list ends inside the operand of a valid opcode. -/
  | missingOperand (code : Byte)
  deriving DecidableEq, Repr

/-- Operand assembly (R56): a byte operand is raw, a word operand has its low byte first. -/
def completeFormat (opcode : Byte) (f : Format) (operands : List Byte) :
    Except DecodeError (Instr × List Byte) :=
  match f, operands with
  | .f1 i, rest => .ok (i, rest)
  | .f2 build, b :: rest => .ok (build b, rest)
  | .f3 build, lo :: hi :: rest => .ok (build (joinBytes hi lo), rest)
  | .f2 _, [] | .f3 _, [] | .f3 _, [_] => .error (.missingOperand opcode)

/-- The decoder: the instruction at the head of the list and the bytes after it, or the reason by name
(R55). An unknown opcode consumes no operand byte (R59). -/
def decode : List Byte → Except DecodeError (Instr × List Byte)
  | [] => .error .noOpcode
  | opcode :: operands =>
    match formatOf opcode with
    | none => .error (.invalidInstructionCode opcode)
    | some f => completeFormat opcode f operands

/-- The opcode byte of each instruction (R58). -/
def opcode : Instr → Byte
  | .brk => 0x00#8
  | .clc => 0x18#8
  | .cld => 0xD8#8
  | .cli => 0x58#8
  | .clv => 0xB8#8
  | .ldaImmediate _ => 0xA9#8
  | .ldaZeroPage _ => 0xA5#8
  | .ldaZeroPageX _ => 0xB5#8
  | .ldaAbsolute _ => 0xAD#8
  | .ldaAbsoluteX _ => 0xBD#8
  | .ldaAbsoluteY _ => 0xB9#8
  | .ldaIndirectX _ => 0xA1#8
  | .ldaIndirectY _ => 0xB1#8
  | .ldxImmediate _ => 0xA2#8
  | .ldxZeroPage _ => 0xA6#8
  | .ldxZeroPageY _ => 0xB6#8
  | .ldxAbsolute _ => 0xAE#8
  | .ldxAbsoluteY _ => 0xBE#8
  | .ldyImmediate _ => 0xA0#8
  | .ldyZeroPage _ => 0xA4#8
  | .ldyZeroPageX _ => 0xB4#8
  | .ldyAbsolute _ => 0xAC#8
  | .ldyAbsoluteX _ => 0xBC#8
  | .tax => 0xAA#8
  | .inx => 0xE8#8
  | .adcImmediate _ => 0x69#8
  | .adcZeroPage _ => 0x65#8
  | .adcZeroPageX _ => 0x75#8
  | .adcAbsolute _ => 0x6D#8
  | .adcAbsoluteX _ => 0x7D#8
  | .adcAbsoluteY _ => 0x79#8
  | .adcIndirectX _ => 0x61#8
  | .adcIndirectY _ => 0x71#8
  | .andImmediate _ => 0x29#8
  | .andZeroPage _ => 0x25#8
  | .andZeroPageX _ => 0x35#8
  | .andAbsolute _ => 0x2D#8
  | .andAbsoluteX _ => 0x3D#8
  | .andAbsoluteY _ => 0x39#8
  | .andIndirectX _ => 0x21#8
  | .andIndirectY _ => 0x31#8
  | .aslAccumulator => 0x0A#8
  | .aslZeroPage _ => 0x06#8
  | .aslZeroPageX _ => 0x16#8
  | .aslAbsolute _ => 0x0E#8
  | .aslAbsoluteX _ => 0x1E#8
  | .bitZeroPage _ => 0x24#8
  | .bitAbsolute _ => 0x2C#8
  | .bcc _ => 0x90#8
  | .bcs _ => 0xB0#8
  | .beq _ => 0xF0#8
  | .bmi _ => 0x30#8
  | .bne _ => 0xD0#8
  | .bpl _ => 0x10#8
  | .bvc _ => 0x50#8
  | .bvs _ => 0x70#8
  | .cmpImmediate _ => 0xC9#8
  | .cmpZeroPage _ => 0xC5#8
  | .cmpZeroPageX _ => 0xD5#8
  | .cmpAbsolute _ => 0xCD#8
  | .cmpAbsoluteX _ => 0xDD#8
  | .cmpAbsoluteY _ => 0xD9#8
  | .cmpIndirectX _ => 0xC1#8
  | .cmpIndirectY _ => 0xD1#8
  | .cpxImmediate _ => 0xE0#8
  | .cpxZeroPage _ => 0xE4#8
  | .cpxAbsolute _ => 0xEC#8
  | .cpyImmediate _ => 0xC0#8
  | .cpyZeroPage _ => 0xC4#8
  | .cpyAbsolute _ => 0xCC#8

/-- A word operand as it stands in memory, low byte first (R53). -/
def wordBytes (w : Word) : List Byte := [lowByte w, highByte w]

/-- The operand bytes of each instruction (R52, R53). -/
def operands : Instr → List Byte
  | .brk => []
  | .clc => []
  | .cld => []
  | .cli => []
  | .clv => []
  | .ldaImmediate imm => [imm]
  | .ldaZeroPage a => [a]
  | .ldaZeroPageX a => [a]
  | .ldaAbsolute a => wordBytes a
  | .ldaAbsoluteX a => wordBytes a
  | .ldaAbsoluteY a => wordBytes a
  | .ldaIndirectX a => [a]
  | .ldaIndirectY a => [a]
  | .ldxImmediate imm => [imm]
  | .ldxZeroPage a => [a]
  | .ldxZeroPageY a => [a]
  | .ldxAbsolute a => wordBytes a
  | .ldxAbsoluteY a => wordBytes a
  | .ldyImmediate imm => [imm]
  | .ldyZeroPage a => [a]
  | .ldyZeroPageX a => [a]
  | .ldyAbsolute a => wordBytes a
  | .ldyAbsoluteX a => wordBytes a
  | .tax => []
  | .inx => []
  | .adcImmediate imm => [imm]
  | .adcZeroPage a => [a]
  | .adcZeroPageX a => [a]
  | .adcAbsolute a => wordBytes a
  | .adcAbsoluteX a => wordBytes a
  | .adcAbsoluteY a => wordBytes a
  | .adcIndirectX a => [a]
  | .adcIndirectY a => [a]
  | .andImmediate imm => [imm]
  | .andZeroPage a => [a]
  | .andZeroPageX a => [a]
  | .andAbsolute a => wordBytes a
  | .andAbsoluteX a => wordBytes a
  | .andAbsoluteY a => wordBytes a
  | .andIndirectX a => [a]
  | .andIndirectY a => [a]
  | .aslAccumulator => []
  | .aslZeroPage a => [a]
  | .aslZeroPageX a => [a]
  | .aslAbsolute a => wordBytes a
  | .aslAbsoluteX a => wordBytes a
  | .bitZeroPage a => [a]
  | .bitAbsolute a => wordBytes a
  | .bcc off => [off]
  | .bcs off => [off]
  | .beq off => [off]
  | .bmi off => [off]
  | .bne off => [off]
  | .bpl off => [off]
  | .bvc off => [off]
  | .bvs off => [off]
  | .cmpImmediate imm => [imm]
  | .cmpZeroPage a => [a]
  | .cmpZeroPageX a => [a]
  | .cmpAbsolute a => wordBytes a
  | .cmpAbsoluteX a => wordBytes a
  | .cmpAbsoluteY a => wordBytes a
  | .cmpIndirectX a => [a]
  | .cmpIndirectY a => [a]
  | .cpxImmediate imm => [imm]
  | .cpxZeroPage a => [a]
  | .cpxAbsolute a => wordBytes a
  | .cpyImmediate imm => [imm]
  | .cpyZeroPage a => [a]
  | .cpyAbsolute a => wordBytes a

/-- The bytes of an instruction in memory order, opcode first (R50). -/
def encode (i : Instr) : List Byte := opcode i :: operands i

/-- The `k`-th byte of a word numbered as the opcode table numbers it, bit 0 the least significant bit
of the first byte. -/
def tableByte (w k : Nat) : Byte := BitVec.ofNat 8 (w / 2 ^ (8 * k))

/-- The three bytes, the length of the longest instruction (R50), of a table word of `nbits` bits; the
bits from `nbits` up are 0. -/
def tableBytes (nbits w : Nat) : List Byte :=
  let v := w % 2 ^ nbits
  [tableByte v 0, tableByte v 1, tableByte v 2]

/-- What the decoder reads from a table word laid out in memory order; `none` where it refuses. -/
def decodeTableWord (nbits w : Nat) : Option Instr :=
  match decode (tableBytes nbits w) with
  | .ok (i, _) => some i
  | .error _ => none

end Sys2Proof
end

