-- ==== Sys2Proof/Config.lean ====
section
/-! DEFINITION. The implementation parameters of 00_scope.md R4: every parameter of kind "decision", the
spec's two open parameters among them (92_eei_decisions.md, "Open parameters, in one place"), and the
fixed values the model uses by name. The other fixed ones are hard-coded, as R4 allows: the widths in
Word.lean, `NUM_GPR` as `Reg`, `NUM_MODES` as `Mode`, `P_RESET` as `Status.clear`, the byte order in
`Memory.readU16`, `CMP_CARRY_FROM` in `compareWith`; `DECIMAL_MODE` and interrupt inputs are absent. -/

namespace Sys2Proof.Config

/-- `MEM_SIZE`, 65 536 bytes (R4). -/
def memSize : Nat := 65536

/-- `SP_RESET`, 0xFF (R4). -/
def spReset : Byte := 0xFF#8

/-- `RESET_VECTOR`: the low byte of the entry address stands here, the high byte at the next cell (R4). -/
def resetVector : Word := 0xFFFC#16

/-- `PROGRAM_BASE`, 0x8000 (R4). -/
def programBase : Word := 0x8000#16

/-- `NUM_OPCODES`: "70 valid opcode bytes" (R4, D2). Laws/Config.lean proves that the opcode map has as many
rows, with no opcode twice. DESIGN CHOICE (the spec's own, D2; log 11), unsafe: the source says "at minimum". -/
def numOpcodes : Nat := 70

/-- The other part of `NUM_OPCODES`: "186 invalid" (R4, D2; log 11). -/
def numInvalidOpcodes : Nat := 186

/-- The privilege modes: there is one, and it permits every instruction (R4; 60_exceptions.md R211).
DESIGN CHOICE (the spec's own, D16; log 16), unsafe: the source never mentions privilege. -/
inductive PrivilegeMode where
  | only
  deriving DecidableEq, Repr

/-- "Privilege modes": one (R4, D16; log 16). -/
def privilegeModes : Nat := 1

/-- `IN_SETS_OVERFLOW`, default `false`: INX leaves V unchanged (R4, R121, D6).
DESIGN CHOICE (the spec's own, D6; log 5), unsafe: the original program is reported to write V. -/
def inSetsOverflow : Bool := false

/-- `PC_AT_CREATE`: "unspecified; any Word" (R4, R220, D14; log 4). It has no body, so nothing can be
proved of its value; safe. -/
opaque pcAtCreate : Word

end Sys2Proof.Config
end

