-- ==== Sys2Proof/Machine/State.lean ====
section
/-! DEFINITION. The architectural state (10_state.md section 1) as plain data, its values right after
reset, and the reasons a step can stop. -/

namespace Sys2Proof.Machine

/-- The six flags of the status register P (R15). Bits 4 and 5 of the packed byte have no storage: they
are hardwired to 0 (R16; log 6). -/
structure Status where
  n : Bool
  v : Bool
  d : Bool
  i : Bool
  z : Bool
  c : Bool
  deriving DecidableEq, Repr

/-- The run state RS (R21). `Decoding` and `Executing` are inside one atomic step and are no values of it. -/
inductive RunState where
  | ready
  | halted
  | faulted
  deriving DecidableEq, Repr

/-- What the fault record FR holds when it is not `none` (R22; 60_exceptions.md R200). -/
inductive FaultRecord where
  /-- Decode met a byte that is not one of the 70 opcodes: the byte and the address it was fetched from. -/
  | invalidInstructionCode (code : Byte) (address : Word)
  /-- A host `load` did not fit: the `addr` argument of the call. -/
  | indexOutOfBounds (address : Word)
  deriving DecidableEq, Repr

/-- The 65 536 cells of M (R20) as the list of those that are not 0x00, addresses strictly rising. -/
abbrev Memory := List Host.Cell

/-- What an unlisted address reads as: memory is "created zero-filled" (R20), and a cell never written
reads as zero (20_memory.md R40). -/
def unlistedByte : Byte := 0x00#8

/-- Every entry's address is above `low`, the addresses rise strictly and stay below `MEM_SIZE`, and no
entry equals what an unlisted address reads as. -/
def Memory.wfAbove (low : Nat) : Memory → Bool
  | [] => true
  | (k, v) :: rest =>
    decide (low ≤ k) && decide (k < Config.memSize) && v != unlistedByte && Memory.wfAbove (k + 1) rest

/-- The canonical form of memory: equal memories are equal lists. -/
def Memory.wf (m : Memory) : Bool := Memory.wfAbove 0 m

/-- The machine's state (10_state.md section 1). The decoded instruction is not part of it (R23). -/
structure State where
  /-- Accumulator (R10). -/
  a : Byte
  /-- Index register X (R10). -/
  x : Byte
  /-- Index register Y (R10). -/
  y : Byte
  /-- Stack pointer, which no instruction reads or writes (R12). -/
  sp : Byte
  /-- Program counter (R13). -/
  pc : Word
  /-- Status register P (R15). -/
  p : Status
  /-- Memory M (R20). -/
  mem : Memory
  /-- Run state RS (R21). -/
  rs : RunState
  /-- Fault record FR (R22). -/
  fr : Option FaultRecord
  deriving DecidableEq, Repr

/-- Why a step stops without a next state: never. The spec gives every step of this block a next state.
An invalid opcode takes the fault entry of 60_exceptions.md R205, which is a next state; a memory access
cannot fail (20_memory.md R30); a step that is not enabled leaves the state as it is
(70_reset_and_hazards.md R226; log 1). So the type has no constructor. -/
inductive Fault where
  deriving DecidableEq, Repr

/-- Why an instruction has no meaning in the model. -/
inductive Refusal where
  /-- Raised by an arm of `exec` whose instruction has no meaning yet; safe. No arm raises it. -/
  | notModelled (mnemonic : String)
  deriving DecidableEq, Repr

/-- What a meaning answers. -/
abbrev Result := Host.Outcome State Fault Refusal

/-- Every flag false: "Status: Initial value: all zero" (R24). -/
def Status.clear : Status :=
  { n := false, v := false, d := false, i := false, z := false, c := false }

/-- The machine right after `reset()` (R24; 70_reset_and_hazards.md R221), over memory as it was created,
zero-filled. The vector at 0xFFFC was then never written, so PC is 0x0000 (R228; log 2). -/
def State.reset : State :=
  { a := 0x00#8, x := 0x00#8, y := 0x00#8, sp := Config.spReset, pc := 0x0000#16,
    p := Status.clear, mem := [], rs := .ready, fr := none }

end Sys2Proof.Machine
end

