-- ==== Sys2Proof/Machine/Ops.lean ====
section
/-! DEFINITION. The named operations over memory (20_memory.md), registers, the fetch and decode of an
instruction (30_encoding.md R55), and the ways the run state changes: halt, fault entry, reset
(60_exceptions.md R205, R208; 70_reset_and_hazards.md R221). -/

namespace Sys2Proof.Machine

/-! ## Memory -/

/-- The byte listed at address `k`, or the unlisted byte. -/
def Memory.get : Memory → Nat → Byte
  | [], _ => unlistedByte
  | (k', v') :: rest, k => if k = k' then v' else Memory.get rest k

/-- The list with `v` at address `k`: an entry equal to the unlisted byte is removed, so the canonical
form is kept. -/
def Memory.put : Memory → Nat → Byte → Memory
  | [], k, v => if v = unlistedByte then [] else [(k, v)]
  | (k', v') :: rest, k, v =>
    if k < k' then
      if v = unlistedByte then (k', v') :: rest else (k, v) :: (k', v') :: rest
    else if k = k' then
      if v = unlistedByte then rest else (k, v) :: rest
    else (k', v') :: Memory.put rest k v

/-- `read(addr)`, defined for every Word (R30). -/
def Memory.read (m : Memory) (addr : Word) : Byte := m.get addr.toNat

/-- `write(addr, byte)`, which changes no other cell (R31). -/
def Memory.write (m : Memory) (addr : Word) (v : Byte) : Memory := m.put addr.toNat v

/-- `read_u16(addr)`: low byte at `addr`, high byte at `addr + 1` modulo 65 536 (R32). -/
def Memory.readU16 (m : Memory) (addr : Word) : Word :=
  joinBytes (m.read (addr + 1#16)) (m.read addr)

/-- `write_u16(addr, word)`: low byte at `addr`, then the high byte at `addr + 1` modulo 65 536 (R33). -/
def Memory.writeU16 (m : Memory) (addr : Word) (w : Word) : Memory :=
  (m.write addr (lowByte w)).write (addr + 1#16) (highByte w)

/-- The copy of `load`: `M[addr + i] <- bytes[i]` (R35). Its caller has checked that the slice fits. -/
def Memory.copy (m : Memory) (addr : Word) : List Byte → Memory
  | [] => m
  | b :: rest => Memory.copy (m.write addr b) (addr + 1#16) rest

/-- The pointer of an indirect mode (40_addressing_modes.md R83): both bytes from page zero, the address
of the high byte wrapping at 8 bits. It is not `read_u16`. -/
def Memory.readPointer (m : Memory) (ptr : Byte) : Word :=
  joinBytes (m.read (zext16 (ptr + 1#8))) (m.read (zext16 ptr))

/-! ## Registers -/

/-- `reg[s]` (10_state.md R11). -/
def State.reg (s : State) : Reg → Byte
  | .a => s.a
  | .x => s.x
  | .y => s.y

/-- `reg[s] <- v` (10_state.md R11). -/
def State.setReg (s : State) (r : Reg) (v : Byte) : State :=
  match r with
  | .a => { s with a := v }
  | .x => { s with x := v }
  | .y => { s with y := v }

/-- `pc <- target`. -/
def State.setPc (s : State) (target : Word) : State := { s with pc := target }

/-- `SP <- v`, a host operation: no instruction names SP (10_state.md R12). -/
def State.setSp (s : State) (v : Byte) : State := { s with sp := v }

/-- `M[addr] <- v`. -/
def State.store (s : State) (addr : Word) (v : Byte) : State :=
  { s with mem := s.mem.write addr v }

/-! ## Privilege -/

/-- The mode the machine is in: the one mode there is, "not encoded in any state" (60_exceptions.md R211; D16,
log 16). No instruction reads or changes it, so no meaning checks it. -/
def State.privilegeMode (_ : State) : Config.PrivilegeMode := .only

/-! ## Fetch and decode -/

/-- How many bytes a fetch reads: the opcode byte, and the operand bytes of its format if it is valid.
"No operand byte is read for an unknown opcode" (30_encoding.md R55). -/
def fetchCount (opcode : Byte) : Nat :=
  match formatOf opcode with
  | none => 1
  | some f => 1 + f.operandBytes

/-- `n` bytes at ascending addresses from `addr`, wrapping at 16 bits (30_encoding.md R53; 10_state.md R14). -/
def Memory.bytesFrom (m : Memory) (addr : Word) : Nat → List Byte
  | 0 => []
  | n + 1 => m.read addr :: m.bytesFrom (addr + 1#16) n

/-- The bytes of the instruction at `addr`, opcode first. -/
def fetchBytes (m : Memory) (addr : Word) : List Byte :=
  m.bytesFrom addr (fetchCount (m.read addr))

/-- `decode(memory, pc) → (Instruction, new_pc)` (30_encoding.md R55): it reads memory and `addr` only. -/
def decodeAt (m : Memory) (addr : Word) : Except DecodeError (Instr × Word) :=
  match decode (fetchBytes m addr) with
  | .ok (i, _) => .ok (i, addr + BitVec.ofNat 16 (fetchBytes m addr).length)
  | .error e => .error e

/-! ## Halt, fault entry and reset -/

/-- Halt entry: `RS <- Halted` and nothing else (60_exceptions.md R208). -/
def State.halt (s : State) : State := { s with rs := .halted }

/-- Entry on `InvalidInstructionCode`: FR and RS are written and nothing else changes (60_exceptions.md
R205). There is no vector, no saved register and no return (R206, R209). That PC keeps the address of
the opcode is the spec's decision D11 (log 7). -/
def State.enterFault (s : State) (code : Byte) (address : Word) : State :=
  { s with rs := .faulted, fr := some (.invalidInstructionCode code address) }

/-- The `reset()` operation (70_reset_and_hazards.md R221): the only way out of Halted and Faulted
(60_exceptions.md R209). Memory is unchanged. -/
def State.applyReset (s : State) : State :=
  { a := 0x00#8, x := 0x00#8, y := 0x00#8, sp := Config.spReset,
    pc := s.mem.readU16 Config.resetVector, p := Status.clear, mem := s.mem, rs := .ready, fr := none }

end Sys2Proof.Machine
end

