-- ==== Sys2Proof/Machine/Flags.lean ====
section
/-! DEFINITION. The status register's operations (10_state.md R15 to R18) and every flag computation of
the instruction rules: Z and N (R18), the carry and overflow of ADC (43_arithmetic_logic.md R130), the
carry of ASL (R148) and of a comparison (45_compare.md R170). -/

namespace Sys2Proof.Machine

/-- `get(flag)` (R17). -/
def Status.get (p : Status) : Flag → Bool
  | .carry => p.c
  | .zero => p.z
  | .interruptDisable => p.i
  | .decimal => p.d
  | .overflow => p.v
  | .negative => p.n

/-- `set(flag, bool)`; "setting one flag never changes any other flag" (R17). -/
def Status.set (p : Status) (f : Flag) (b : Bool) : Status :=
  match f with
  | .carry => { p with c := b }
  | .zero => { p with z := b }
  | .interruptDisable => { p with i := b }
  | .decimal => { p with d := b }
  | .overflow => { p with v := b }
  | .negative => { p with n := b }

/-- The packed byte, a derived view with bits 4 and 5 zero (R15, R16). -/
def Status.packed (p : Status) : Byte :=
  BitVec.ofNat 8
    (p.n.toNat * 128 + p.v.toNat * 64 + p.d.toNat * 8 + p.i.toNat * 4 + p.z.toNat * 2 + p.c.toNat)

/-- `P.F <- b`. -/
def State.setFlag (s : State) (f : Flag) (b : Bool) : State := { s with p := s.p.set f b }

/-- "Z ← (r == 0)" (R18). -/
def isZero (r : Byte) : Bool := r == 0x00#8

/-- "N ← (bit 7 of r)" (R18). -/
def bit7 (r : Byte) : Bool := r.getLsbD 7

/-- Bit 6, which BIT copies into V (43_arithmetic_logic.md R154). -/
def bit6 (r : Byte) : Bool := r.getLsbD 6

/-- `SetZN(r)` (R18): no other flag changes. -/
def State.setZN (s : State) (r : Byte) : State :=
  (s.setFlag .zero (isZero r)).setFlag .negative (bit7 r)

/-- ADC's unsigned sum `A + m + c` on unbounded integers (43_arithmetic_logic.md R130). -/
def adcSum (acc m : Byte) (c : Bool) : Nat := acc.toNat + m.toNat + c.toNat

/-- ADC's signed sum `int8(A) + int8(m) + c` on unbounded integers (R130). -/
def adcSignedSum (acc m : Byte) (c : Bool) : Int := acc.toInt + m.toInt + (c.toNat : Int)

/-- ADC's result, the sum modulo 256 (R130). The Decimal flag has no part in it (10_state.md R19). -/
def adcResult (acc m : Byte) (c : Bool) : Byte := BitVec.ofNat 8 (adcSum acc m c)

/-- ADC's carry out, `s > 255` (R130). -/
def adcCarry (acc m : Byte) (c : Bool) : Bool := decide (255 < adcSum acc m c)

/-- ADC's signed overflow, `(t < -128) or (t > 127)` (R130). -/
def adcOverflow (acc m : Byte) (c : Bool) : Bool :=
  decide (adcSignedSum acc m c < -128 ∨ 127 < adcSignedSum acc m c)

/-- ASL's result, `(s << 1) mod 256` (R148). -/
def aslResult (b : Byte) : Byte := b <<< 1

/-- The difference of a comparison, modulo 256 (45_compare.md R170). -/
def compareDifference (r m : Byte) : Byte := r - m

/-- The carry of a comparison, `r >= m` on unsigned Bytes (R170). -/
def compareCarry (r m : Byte) : Bool := decide (m.toNat ≤ r.toNat)

end Sys2Proof.Machine
end

