-- ==== Sys2Proof/Machine/Operands.lean ====
section
/-! DEFINITION. The addressing-mode resolver (40_addressing_modes.md): effective address and effective
value of every mode, from the raw operand and the live registers. Resolving changes nothing and cannot
fail (R88). -/

namespace Sys2Proof.Machine

/-- The effective address of the eight memory modes (R73 to R75, R77 to R81). Zero-page indexing wraps at
8 bits before it is widened; absolute indexing and the index of IndirectY wrap at 16 bits. -/
def effectiveAddress (m : MemMode) (s : State) : Word :=
  match m with
  | .zeroPage a => zext16 a
  | .zeroPageX a => zext16 (a + s.x)
  | .zeroPageY a => zext16 (a + s.y)
  | .absolute a => a
  | .absoluteX a => a + zext16 s.x
  | .absoluteY a => a + zext16 s.y
  | .indirectX a => s.mem.readPointer (a + s.x)
  | .indirectY a => s.mem.readPointer a + zext16 s.y

/-- The effective value of a memory mode: the byte at its effective address (R82). -/
def effectiveValue (m : MemMode) (s : State) : Byte := s.mem.read (effectiveAddress m s)

/-- The target of a Relative operand, from the post-decode program counter (R76). -/
def relativeTarget (off : Byte) (s : State) : Word := s.pc + sext16 off

/-- `EA(mode)` where the mode has one (R70): not Accumulator, not Immediate. -/
def addressOf (mode : Mode) (s : State) : Option Word :=
  match mode with
  | .accumulator => none
  | .immediate _ => none
  | .relative off => some (relativeTarget off s)
  | .mem m => some (effectiveAddress m s)

/-- `EV(mode)` where the mode has one (R70, R72, R82): not Accumulator, not Relative. -/
def valueOf (mode : Mode) (s : State) : Option Byte :=
  match mode with
  | .accumulator => none
  | .immediate imm => some imm
  | .relative _ => none
  | .mem m => some (effectiveValue m s)

end Sys2Proof.Machine
end

