-- ==== Sys2Proof/Machine/ArithmeticLogic.lean ====
section
/-! DEFINITION. Adc, And, Asl and Bit (43_arithmetic_logic.md). Values are computed from the state before the
instruction; the result is written first and the flags last (90_conflicts.md C3). -/

namespace Sys2Proof.Machine

/-- Family Adc: binary add with carry whatever D holds; C, V, Z and N are written (R130). -/
def addWithCarry (m : Byte) (s : State) : State :=
  let r := adcResult s.a m s.p.c
  (((s.setReg .a r).setFlag .carry (adcCarry s.a m s.p.c)).setFlag .overflow
    (adcOverflow s.a m s.p.c)).setZN r

/-- Family And: Z and N are written, C and V are not (R139). -/
def andAccumulator (m : Byte) (s : State) : State :=
  let r := s.a &&& m
  (s.setReg .a r).setZN r

/-- The flags of ASL: C is bit 7 of the operand before the shift, Z and N describe the result (R148). -/
def shiftFlags (operand : Byte) (s : State) : State :=
  (s.setFlag .carry (bit7 operand)).setZN (aslResult operand)

/-- Asl with the Accumulator mode: no memory is accessed (R148, R149). -/
def shiftAccumulator (s : State) : State := shiftFlags s.a (s.setReg .a (aslResult s.a))

/-- Asl with a memory mode: read, modify and write the one byte at `ea`; A is not touched (R148). -/
def shiftMemory (ea : Word) (s : State) : State :=
  let operand := s.mem.read ea
  shiftFlags operand (s.store ea (aslResult operand))

/-- Family Bit: N and V are bits 7 and 6 of the operand, Z depends on A; nothing else changes (R154). -/
def bitTest (m : Byte) (s : State) : State :=
  ((s.setFlag .negative (bit7 m)).setFlag .overflow (bit6 m)).setFlag .zero (isZero (s.a &&& m))

/-- `ADC #$nn` (R131). -/
def execAdcImmediate (imm : Byte) (s : State) : Result :=
  .next (addWithCarry imm s)

/-- `ADC $nn` (R132). -/
def execAdcZeroPage (a : Byte) (s : State) : Result :=
  .next (addWithCarry (effectiveValue (.zeroPage a) s) s)

/-- `ADC $nn,X` (R133). -/
def execAdcZeroPageX (a : Byte) (s : State) : Result :=
  .next (addWithCarry (effectiveValue (.zeroPageX a) s) s)

/-- `ADC $nnnn` (R134). -/
def execAdcAbsolute (a : Word) (s : State) : Result :=
  .next (addWithCarry (effectiveValue (.absolute a) s) s)

/-- `ADC $nnnn,X` (R135). -/
def execAdcAbsoluteX (a : Word) (s : State) : Result :=
  .next (addWithCarry (effectiveValue (.absoluteX a) s) s)

/-- `ADC $nnnn,Y` (R136). -/
def execAdcAbsoluteY (a : Word) (s : State) : Result :=
  .next (addWithCarry (effectiveValue (.absoluteY a) s) s)

/-- `ADC ($nn,X)` (R137). -/
def execAdcIndirectX (a : Byte) (s : State) : Result :=
  .next (addWithCarry (effectiveValue (.indirectX a) s) s)

/-- `ADC ($nn),Y` (R138). -/
def execAdcIndirectY (a : Byte) (s : State) : Result :=
  .next (addWithCarry (effectiveValue (.indirectY a) s) s)

/-- `AND #$nn` (R140). -/
def execAndImmediate (imm : Byte) (s : State) : Result :=
  .next (andAccumulator imm s)

/-- `AND $nn` (R141). -/
def execAndZeroPage (a : Byte) (s : State) : Result :=
  .next (andAccumulator (effectiveValue (.zeroPage a) s) s)

/-- `AND $nn,X` (R142). -/
def execAndZeroPageX (a : Byte) (s : State) : Result :=
  .next (andAccumulator (effectiveValue (.zeroPageX a) s) s)

/-- `AND $nnnn` (R143). -/
def execAndAbsolute (a : Word) (s : State) : Result :=
  .next (andAccumulator (effectiveValue (.absolute a) s) s)

/-- `AND $nnnn,X` (R144). -/
def execAndAbsoluteX (a : Word) (s : State) : Result :=
  .next (andAccumulator (effectiveValue (.absoluteX a) s) s)

/-- `AND $nnnn,Y` (R145). -/
def execAndAbsoluteY (a : Word) (s : State) : Result :=
  .next (andAccumulator (effectiveValue (.absoluteY a) s) s)

/-- `AND ($nn,X)` (R146). -/
def execAndIndirectX (a : Byte) (s : State) : Result :=
  .next (andAccumulator (effectiveValue (.indirectX a) s) s)

/-- `AND ($nn),Y` (R147). -/
def execAndIndirectY (a : Byte) (s : State) : Result :=
  .next (andAccumulator (effectiveValue (.indirectY a) s) s)

/-- `ASL A` (R149). -/
def execAslAccumulator (s : State) : Result :=
  .next (shiftAccumulator s)

/-- `ASL $nn` (R150). -/
def execAslZeroPage (a : Byte) (s : State) : Result :=
  .next (shiftMemory (effectiveAddress (.zeroPage a) s) s)

/-- `ASL $nn,X` (R151). -/
def execAslZeroPageX (a : Byte) (s : State) : Result :=
  .next (shiftMemory (effectiveAddress (.zeroPageX a) s) s)

/-- `ASL $nnnn` (R152). -/
def execAslAbsolute (a : Word) (s : State) : Result :=
  .next (shiftMemory (effectiveAddress (.absolute a) s) s)

/-- `ASL $nnnn,X` (R153). -/
def execAslAbsoluteX (a : Word) (s : State) : Result :=
  .next (shiftMemory (effectiveAddress (.absoluteX a) s) s)

/-- `BIT $nn` (R155). -/
def execBitZeroPage (a : Byte) (s : State) : Result :=
  .next (bitTest (effectiveValue (.zeroPage a) s) s)

/-- `BIT $nnnn` (R156). -/
def execBitAbsolute (a : Word) (s : State) : Result :=
  .next (bitTest (effectiveValue (.absolute a) s) s)

end Sys2Proof.Machine
end

