-- ==== Sys2Proof/Machine/Branch.lean ====
section
/-! DEFINITION. Conditional branches (44_branch.md). -/

namespace Sys2Proof.Machine

/-- Family Branch: PC becomes the Relative effective address when the flag has the wanted value, and keeps
the post-decode value otherwise; nothing else changes (R160). -/
def branch (f : Flag) (branchIf : Bool) (off : Byte) (s : State) : State :=
  if s.p.get f = branchIf then s.setPc (relativeTarget off s) else s

/-- `BCC rel` (R161). -/
def execBcc (off : Byte) (s : State) : Result :=
  .next (branch .carry false off s)

/-- `BCS rel` (R162). -/
def execBcs (off : Byte) (s : State) : Result :=
  .next (branch .carry true off s)

/-- `BEQ rel` (R163). -/
def execBeq (off : Byte) (s : State) : Result :=
  .next (branch .zero true off s)

/-- `BMI rel` (R164). -/
def execBmi (off : Byte) (s : State) : Result :=
  .next (branch .negative true off s)

/-- `BNE rel` (R165). -/
def execBne (off : Byte) (s : State) : Result :=
  .next (branch .zero false off s)

/-- `BPL rel` (R166). -/
def execBpl (off : Byte) (s : State) : Result :=
  .next (branch .negative false off s)

/-- `BVC rel` (R167). -/
def execBvc (off : Byte) (s : State) : Result :=
  .next (branch .overflow false off s)

/-- `BVS rel` (R168). -/
def execBvs (off : Byte) (s : State) : Result :=
  .next (branch .overflow true off s)

end Sys2Proof.Machine
end

