-- ==== Sys2Proof/Machine/BreakClear.lean ====
section
/-! DEFINITION. Break and Clear (41_break_clear.md). Every meaning runs on the state after decode, whose `pc` is already
the post-decode value (30_encoding.md R55). -/

namespace Sys2Proof.Machine

/-- Family Clear: the flag becomes false and no other flag changes (R91). -/
def clearFlag (f : Flag) (s : State) : State := s.setFlag f false

/-- `BRK` (R90). -/
def execBrk (s : State) : Result :=
  .next s.halt

/-- `CLC` (R92). -/
def execClc (s : State) : Result :=
  .next (clearFlag .carry s)

/-- `CLD` (R93). -/
def execCld (s : State) : Result :=
  .next (clearFlag .decimal s)

/-- `CLI` (R94). -/
def execCli (s : State) : Result :=
  .next (clearFlag .interruptDisable s)

/-- `CLV` (R95). -/
def execClv (s : State) : Result :=
  .next (clearFlag .overflow s)

end Sys2Proof.Machine
end

