-- ==== Sys2Proof/Machine/Compare.lean ====
section
/-! DEFINITION. Compare instructions (45_compare.md). -/

namespace Sys2Proof.Machine

/-- Family Cmp: C, Z and N from the difference of the compared register and `m`; the carry is that of the
compared register, never of A alone (R170, 90_conflicts.md C5). No register is written. -/
def compareWith (r : Reg) (m : Byte) (s : State) : State :=
  (s.setFlag .carry (compareCarry (s.reg r) m)).setZN (compareDifference (s.reg r) m)

/-- `CMP #$nn` (R171). -/
def execCmpImmediate (imm : Byte) (s : State) : Result :=
  .next (compareWith .a imm s)

/-- `CMP $nn` (R172). -/
def execCmpZeroPage (a : Byte) (s : State) : Result :=
  .next (compareWith .a (effectiveValue (.zeroPage a) s) s)

/-- `CMP $nn,X` (R173). -/
def execCmpZeroPageX (a : Byte) (s : State) : Result :=
  .next (compareWith .a (effectiveValue (.zeroPageX a) s) s)

/-- `CMP $nnnn` (R174). -/
def execCmpAbsolute (a : Word) (s : State) : Result :=
  .next (compareWith .a (effectiveValue (.absolute a) s) s)

/-- `CMP $nnnn,X` (R175). -/
def execCmpAbsoluteX (a : Word) (s : State) : Result :=
  .next (compareWith .a (effectiveValue (.absoluteX a) s) s)

/-- `CMP $nnnn,Y` (R176). -/
def execCmpAbsoluteY (a : Word) (s : State) : Result :=
  .next (compareWith .a (effectiveValue (.absoluteY a) s) s)

/-- `CMP ($nn,X)` (R177). -/
def execCmpIndirectX (a : Byte) (s : State) : Result :=
  .next (compareWith .a (effectiveValue (.indirectX a) s) s)

/-- `CMP ($nn),Y` (R178). -/
def execCmpIndirectY (a : Byte) (s : State) : Result :=
  .next (compareWith .a (effectiveValue (.indirectY a) s) s)

/-- `CPX #$nn` (R179). -/
def execCpxImmediate (imm : Byte) (s : State) : Result :=
  .next (compareWith .x imm s)

/-- `CPX $nn` (R180). -/
def execCpxZeroPage (a : Byte) (s : State) : Result :=
  .next (compareWith .x (effectiveValue (.zeroPage a) s) s)

/-- `CPX $nnnn` (R181). -/
def execCpxAbsolute (a : Word) (s : State) : Result :=
  .next (compareWith .x (effectiveValue (.absolute a) s) s)

/-- `CPY #$nn` (R182). -/
def execCpyImmediate (imm : Byte) (s : State) : Result :=
  .next (compareWith .y imm s)

/-- `CPY $nn` (R183). -/
def execCpyZeroPage (a : Byte) (s : State) : Result :=
  .next (compareWith .y (effectiveValue (.zeroPage a) s) s)

/-- `CPY $nnnn` (R184). -/
def execCpyAbsolute (a : Word) (s : State) : Result :=
  .next (compareWith .y (effectiveValue (.absolute a) s) s)

end Sys2Proof.Machine
end

