-- ==== Sys2Proof/Machine/LoadTransferIncrement.lean ====
section
/-! DEFINITION. Ld, Trr and In (42_load_transfer_increment.md). -/

namespace Sys2Proof.Machine

/-- Family Ld: `v` to `dest`, Z and N from `v` (R100). -/
def load (dest : Reg) (v : Byte) (s : State) : State := (s.setReg dest v).setZN v

/-- Family Trr: a copy is a load of the origin's byte (R119). -/
def transfer (origin dest : Reg) (s : State) : State := load dest (s.reg origin) s

/-- Family In: wrapping increment, Z and N from the result (R121). With `IN_SETS_OVERFLOW` true it also
writes V from the unsigned wrap, `P.V <- (old == 0xFF)` (R121, D6; log 5). C is never written. -/
def increment (setsOverflow : Bool) (dest : Reg) (s : State) : State :=
  let old := s.reg dest
  let t := load dest (old + 1#8) s
  if setsOverflow then t.setFlag .overflow (old == 0xFF#8) else t

/-- `LDA #$nn` (R101). -/
def execLdaImmediate (imm : Byte) (s : State) : Result :=
  .next (load .a imm s)

/-- `LDA $nn` (R102). -/
def execLdaZeroPage (a : Byte) (s : State) : Result :=
  .next (load .a (effectiveValue (.zeroPage a) s) s)

/-- `LDA $nn,X` (R103). -/
def execLdaZeroPageX (a : Byte) (s : State) : Result :=
  .next (load .a (effectiveValue (.zeroPageX a) s) s)

/-- `LDA $nnnn` (R104). -/
def execLdaAbsolute (a : Word) (s : State) : Result :=
  .next (load .a (effectiveValue (.absolute a) s) s)

/-- `LDA $nnnn,X` (R105). -/
def execLdaAbsoluteX (a : Word) (s : State) : Result :=
  .next (load .a (effectiveValue (.absoluteX a) s) s)

/-- `LDA $nnnn,Y` (R106). -/
def execLdaAbsoluteY (a : Word) (s : State) : Result :=
  .next (load .a (effectiveValue (.absoluteY a) s) s)

/-- `LDA ($nn,X)` (R107). -/
def execLdaIndirectX (a : Byte) (s : State) : Result :=
  .next (load .a (effectiveValue (.indirectX a) s) s)

/-- `LDA ($nn),Y` (R108). -/
def execLdaIndirectY (a : Byte) (s : State) : Result :=
  .next (load .a (effectiveValue (.indirectY a) s) s)

/-- `LDX #$nn` (R109). -/
def execLdxImmediate (imm : Byte) (s : State) : Result :=
  .next (load .x imm s)

/-- `LDX $nn` (R110). -/
def execLdxZeroPage (a : Byte) (s : State) : Result :=
  .next (load .x (effectiveValue (.zeroPage a) s) s)

/-- `LDX $nn,Y` (R111). -/
def execLdxZeroPageY (a : Byte) (s : State) : Result :=
  .next (load .x (effectiveValue (.zeroPageY a) s) s)

/-- `LDX $nnnn` (R112). -/
def execLdxAbsolute (a : Word) (s : State) : Result :=
  .next (load .x (effectiveValue (.absolute a) s) s)

/-- `LDX $nnnn,Y` (R113). -/
def execLdxAbsoluteY (a : Word) (s : State) : Result :=
  .next (load .x (effectiveValue (.absoluteY a) s) s)

/-- `LDY #$nn` (R114). -/
def execLdyImmediate (imm : Byte) (s : State) : Result :=
  .next (load .y imm s)

/-- `LDY $nn` (R115). -/
def execLdyZeroPage (a : Byte) (s : State) : Result :=
  .next (load .y (effectiveValue (.zeroPage a) s) s)

/-- `LDY $nn,X` (R116). -/
def execLdyZeroPageX (a : Byte) (s : State) : Result :=
  .next (load .y (effectiveValue (.zeroPageX a) s) s)

/-- `LDY $nnnn` (R117). -/
def execLdyAbsolute (a : Word) (s : State) : Result :=
  .next (load .y (effectiveValue (.absolute a) s) s)

/-- `LDY $nnnn,X` (R118). -/
def execLdyAbsoluteX (a : Word) (s : State) : Result :=
  .next (load .y (effectiveValue (.absoluteX a) s) s)

/-- `TAX` (R120). -/
def execTax (s : State) : Result :=
  .next (transfer .a .x s)

/-- `INX` (R122). -/
def execInx (s : State) : Result :=
  .next (increment Config.inSetsOverflow .x s)

end Sys2Proof.Machine
end

