-- ==== Sys2Proof/Machine/Dispatch.lean ====
section
/-! DEFINITION. The execute part of a step: one arm for each constructor of Instr. -/

namespace Sys2Proof.Machine

/-- The meaning of a decoded instruction on the state after decode (30_encoding.md R57). -/
def exec (i : Instr) (s : State) : Host.Outcome State Fault Refusal :=
  match i with
  | .brk => Sys2Proof.Machine.execBrk s
  | .clc => Sys2Proof.Machine.execClc s
  | .cld => Sys2Proof.Machine.execCld s
  | .cli => Sys2Proof.Machine.execCli s
  | .clv => Sys2Proof.Machine.execClv s
  | .ldaImmediate imm => Sys2Proof.Machine.execLdaImmediate imm s
  | .ldaZeroPage a => Sys2Proof.Machine.execLdaZeroPage a s
  | .ldaZeroPageX a => Sys2Proof.Machine.execLdaZeroPageX a s
  | .ldaAbsolute a => Sys2Proof.Machine.execLdaAbsolute a s
  | .ldaAbsoluteX a => Sys2Proof.Machine.execLdaAbsoluteX a s
  | .ldaAbsoluteY a => Sys2Proof.Machine.execLdaAbsoluteY a s
  | .ldaIndirectX a => Sys2Proof.Machine.execLdaIndirectX a s
  | .ldaIndirectY a => Sys2Proof.Machine.execLdaIndirectY a s
  | .ldxImmediate imm => Sys2Proof.Machine.execLdxImmediate imm s
  | .ldxZeroPage a => Sys2Proof.Machine.execLdxZeroPage a s
  | .ldxZeroPageY a => Sys2Proof.Machine.execLdxZeroPageY a s
  | .ldxAbsolute a => Sys2Proof.Machine.execLdxAbsolute a s
  | .ldxAbsoluteY a => Sys2Proof.Machine.execLdxAbsoluteY a s
  | .ldyImmediate imm => Sys2Proof.Machine.execLdyImmediate imm s
  | .ldyZeroPage a => Sys2Proof.Machine.execLdyZeroPage a s
  | .ldyZeroPageX a => Sys2Proof.Machine.execLdyZeroPageX a s
  | .ldyAbsolute a => Sys2Proof.Machine.execLdyAbsolute a s
  | .ldyAbsoluteX a => Sys2Proof.Machine.execLdyAbsoluteX a s
  | .tax => Sys2Proof.Machine.execTax s
  | .inx => Sys2Proof.Machine.execInx s
  | .adcImmediate imm => Sys2Proof.Machine.execAdcImmediate imm s
  | .adcZeroPage a => Sys2Proof.Machine.execAdcZeroPage a s
  | .adcZeroPageX a => Sys2Proof.Machine.execAdcZeroPageX a s
  | .adcAbsolute a => Sys2Proof.Machine.execAdcAbsolute a s
  | .adcAbsoluteX a => Sys2Proof.Machine.execAdcAbsoluteX a s
  | .adcAbsoluteY a => Sys2Proof.Machine.execAdcAbsoluteY a s
  | .adcIndirectX a => Sys2Proof.Machine.execAdcIndirectX a s
  | .adcIndirectY a => Sys2Proof.Machine.execAdcIndirectY a s
  | .andImmediate imm => Sys2Proof.Machine.execAndImmediate imm s
  | .andZeroPage a => Sys2Proof.Machine.execAndZeroPage a s
  | .andZeroPageX a => Sys2Proof.Machine.execAndZeroPageX a s
  | .andAbsolute a => Sys2Proof.Machine.execAndAbsolute a s
  | .andAbsoluteX a => Sys2Proof.Machine.execAndAbsoluteX a s
  | .andAbsoluteY a => Sys2Proof.Machine.execAndAbsoluteY a s
  | .andIndirectX a => Sys2Proof.Machine.execAndIndirectX a s
  | .andIndirectY a => Sys2Proof.Machine.execAndIndirectY a s
  | .aslAccumulator => Sys2Proof.Machine.execAslAccumulator s
  | .aslZeroPage a => Sys2Proof.Machine.execAslZeroPage a s
  | .aslZeroPageX a => Sys2Proof.Machine.execAslZeroPageX a s
  | .aslAbsolute a => Sys2Proof.Machine.execAslAbsolute a s
  | .aslAbsoluteX a => Sys2Proof.Machine.execAslAbsoluteX a s
  | .bitZeroPage a => Sys2Proof.Machine.execBitZeroPage a s
  | .bitAbsolute a => Sys2Proof.Machine.execBitAbsolute a s
  | .bcc off => Sys2Proof.Machine.execBcc off s
  | .bcs off => Sys2Proof.Machine.execBcs off s
  | .beq off => Sys2Proof.Machine.execBeq off s
  | .bmi off => Sys2Proof.Machine.execBmi off s
  | .bne off => Sys2Proof.Machine.execBne off s
  | .bpl off => Sys2Proof.Machine.execBpl off s
  | .bvc off => Sys2Proof.Machine.execBvc off s
  | .bvs off => Sys2Proof.Machine.execBvs off s
  | .cmpImmediate imm => Sys2Proof.Machine.execCmpImmediate imm s
  | .cmpZeroPage a => Sys2Proof.Machine.execCmpZeroPage a s
  | .cmpZeroPageX a => Sys2Proof.Machine.execCmpZeroPageX a s
  | .cmpAbsolute a => Sys2Proof.Machine.execCmpAbsolute a s
  | .cmpAbsoluteX a => Sys2Proof.Machine.execCmpAbsoluteX a s
  | .cmpAbsoluteY a => Sys2Proof.Machine.execCmpAbsoluteY a s
  | .cmpIndirectX a => Sys2Proof.Machine.execCmpIndirectX a s
  | .cmpIndirectY a => Sys2Proof.Machine.execCmpIndirectY a s
  | .cpxImmediate imm => Sys2Proof.Machine.execCpxImmediate imm s
  | .cpxZeroPage a => Sys2Proof.Machine.execCpxZeroPage a s
  | .cpxAbsolute a => Sys2Proof.Machine.execCpxAbsolute a s
  | .cpyImmediate imm => Sys2Proof.Machine.execCpyImmediate imm s
  | .cpyZeroPage a => Sys2Proof.Machine.execCpyZeroPage a s
  | .cpyAbsolute a => Sys2Proof.Machine.execCpyAbsolute a s

end Sys2Proof.Machine
end

