-- ==== Sys2Proof/Machine/Step.lean ====
section
/-! DEFINITION. The step of the CPU agent (70_reset_and_hazards.md R226) and the placing of one word where
the next step fetches it. -/

namespace Sys2Proof.Machine

/-- `step()`: decode at PC, commit the post-decode PC, execute (R226). An invalid opcode takes the fault
entry of 60_exceptions.md R205. When RS is not Ready the step is not enabled and the state does not
change (R21, R226, U4; log 1). -/
def step (s : State) : Host.Outcome State Fault Refusal :=
  if s.rs = .ready then
    match decodeAt s.mem s.pc with
    | .ok (i, newPc) => exec i (s.setPc newPc)
    | .error _ => .next (s.enterFault (s.mem.read s.pc) s.pc)
  else .next s

/-- The state with a table word's three bytes stored at PC and RS Ready, so that the next step fetches
and runs it (log 3). -/
def State.withFetchWord (s : State) (nbits w : Nat) : State :=
  { s with mem := s.mem.copy s.pc (tableBytes nbits w), rs := .ready }

end Sys2Proof.Machine
end

