-- ==== Sys2Proof/Machine/Environment.lean ====
section
/-! DEFINITION. The operations the host applies between steps (70_reset_and_hazards.md R233). Each is a
transition of its own, so that none can fall inside a step (60_exceptions.md R214; log 13). -/

namespace Sys2Proof.Machine

/-- `create` (R220): a new instance, its PC unspecified (D14; log 4). -/
def create : State :=
  { a := 0x00#8, x := 0x00#8, y := 0x00#8, sp := Config.spReset, pc := Config.pcAtCreate,
    p := Status.clear, mem := [], rs := .ready, fr := none }

/-- `reset_test()` (R222): the reset, then PC forced to `PROGRAM_BASE`. -/
def State.applyResetTest (s : State) : State := s.applyReset.setPc Config.programBase

/-- `load(addr, bytes)` (20_memory.md R35, R36) and the error it reports. A slice that does not fit is
not copied; FR is set, RS and the registers are not (60_exceptions.md R202; D13, log 8). -/
def hostLoad (addr : Word) (bytes : List Byte) (s : State) : State × Option FaultRecord :=
  if addr.toNat + bytes.length ≤ Config.memSize then ({ s with mem := s.mem.copy addr bytes }, none)
  else ({ s with fr := some (.indexOutOfBounds addr) }, some (.indexOutOfBounds addr))

/-- `load(program)`, which copies the bytes at `PROGRAM_BASE` (R223). -/
def loadProgram (program : List Byte) (s : State) : State × Option FaultRecord :=
  hostLoad Config.programBase program s

/-- `write_u16(addr, word)` (20_memory.md R33), used only by the host. -/
def State.storeU16 (s : State) (addr w : Word) : State := { s with mem := s.mem.writeU16 addr w }

/-- `run()` under fuel: `step` applied while RS is Ready (R224; log 14). -/
def run : Nat → State → Result
  | 0, s => .next s
  | fuel + 1, s =>
    if s.rs = .ready then
      match step s with
      | .next t => run fuel t
      | .fault r => .fault r
      | .refused r => .refused r
    else .next s

/-- `load_and_run(program)` under fuel: load, reset, run; a load that fails ends it (R225). -/
def loadAndRun (fuel : Nat) (program : List Byte) (s : State) : Result :=
  match loadProgram program s with
  | (t, none) => run fuel t.applyReset
  | (t, some _) => .next t

/-- The operations of R233 that can change state. The reads (`read`, `read_u16`, `get`, the registers, RS
and FR, 10_state.md R25) change nothing and are the fields and accessors of `State`. -/
inductive HostOp where
  | create
  | reset
  | resetTest
  | loadProgram (program : List Byte)
  | load (addr : Word) (bytes : List Byte)
  | write (addr : Word) (v : Byte)
  | writeU16 (addr w : Word)
  | setFlag (f : Flag) (b : Bool)
  | writeReg (r : Reg) (v : Byte)
  | writeSp (v : Byte)
  | writePc (w : Word)
  | step
  | run (fuel : Nat)
  | loadAndRun (fuel : Nat) (program : List Byte)
  deriving DecidableEq, Repr

/-- The state after an operation (R233). -/
def HostOp.apply (op : HostOp) (s : State) : Result :=
  match op with
  | .create => .next Machine.create
  | .reset => .next s.applyReset
  | .resetTest => .next s.applyResetTest
  | .loadProgram program => .next (Machine.loadProgram program s).1
  | .load addr bytes => .next (hostLoad addr bytes s).1
  | .write addr v => .next (s.store addr v)
  | .writeU16 addr w => .next (s.storeU16 addr w)
  | .setFlag f b => .next (s.setFlag f b)
  | .writeReg r v => .next (s.setReg r v)
  | .writeSp v => .next (s.setSp v)
  | .writePc w => .next (s.setPc w)
  | .step => Machine.step s
  | .run fuel => Machine.run fuel s
  | .loadAndRun fuel program => Machine.loadAndRun fuel program s

end Sys2Proof.Machine
end

