-- ==== Sys2Proof/Machine/Families.lean ====
section
/-! DEFINITION. The execute rule of each family over the whole variant tree (30_encoding.md R57, its
column "Execute rule"): the clear form that every arm of `exec` must agree with. -/

namespace Sys2Proof.Machine

/-- What a variant does on the state after decode, `none` for a combination with no behaviour to define
(40_addressing_modes.md R86). Ld, Trr, In and Cmp are stated for every selector value (10_state.md R11). -/
def executeVariant (v : Variant) (s : State) : Option State :=
  match v with
  | .brk => some s.halt
  | .clear f => some (clearFlag f s)
  | .ld dest mode => (valueOf mode s).map fun b => load dest b s
  | .trr origin dest => some (transfer origin dest s)
  | .inc dest => some (increment Config.inSetsOverflow dest s)
  | .adc mode => (valueOf mode s).map fun b => addWithCarry b s
  | .and mode => (valueOf mode s).map fun b => andAccumulator b s
  | .asl .accumulator => some (shiftAccumulator s)
  | .asl (.mem m) => some (shiftMemory (effectiveAddress m s) s)
  | .asl _ => none
  | .bit mode => (valueOf mode s).map fun b => bitTest b s
  | .branch (.relative off) f branchIf => some (branch f branchIf off s)
  | .branch _ _ _ => none
  | .cmp r mode => (valueOf mode s).map fun b => compareWith r b s

end Sys2Proof.Machine
end

