-- ==== Sys2Proof/Safety.lean ====
section
/-! DEFINITION. What counts as a safe state and a safe run, in the terms the statements use. -/

namespace Sys2Proof.Machine

/-- A step is enabled only when RS is Ready (10_state.md R21; 70_reset_and_hazards.md R226). -/
abbrev State.Enabled (s : State) : Prop := s.rs = .ready

/-- A state is safe when its memory has the canonical form and a faulted machine has a fault record:
"a fault sets RS <- Faulted" together with FR (10_state.md R21, R22). -/
abbrev State.Inv (s : State) : Prop :=
  s.mem.wf = true ∧ (s.rs = .faulted → s.fr ≠ none)

/-- A run is safe when it does not end in Faulted (60_exceptions.md R200). -/
def SafeRun (fuel : Nat) (s : State) : Prop := ∃ t, run fuel s = .next t ∧ t.rs ≠ .faulted

/-- A run ends cleanly when it ends by BRK (60_exceptions.md R208). -/
def CleanHalt (fuel : Nat) (s : State) : Prop := ∃ t, run fuel s = .next t ∧ t.rs = .halted

/-- Two states that differ at most in the flags I and D. -/
abbrev SameButID (s t : State) : Prop :=
  t = { s with p := { s.p with i := t.p.i, d := t.p.d } }

/-- Two states that differ at most in SP. -/
abbrev SameButSp (s t : State) : Prop := t = { s with sp := t.sp }

/-- Two states that differ at most in the fault record. -/
abbrev SameButRecord (s t : State) : Prop := t = { s with fr := t.fr }

end Sys2Proof.Machine
end

