-- ==== Sys2Proof/Certificates/Slice0/Obligations.lean ====
section
/-! DEFINITION. The statements for the provers. Each docstring names the rule of spec/ it formalises, or
says that it is derived and names the log entry of any choice it rests on. `exec` runs on the state after
decode: the `pc` of the state it is given is already the post-decode value (30_encoding.md R55). -/

open Sys2Proof Sys2Proof.Machine

/-! ## Vocabulary: the forms of each family, and readings in plain arithmetic -/

/-- The three bytes from PC on, the longest an instruction can be (30_encoding.md R50). -/
def Sys2Proof.Forms.bytesAtPc (s : State) : List Byte :=
  [s.mem.read s.pc, s.mem.read (s.pc + 1#16), s.mem.read (s.pc + 2#16)]

/-- The byte at address `n`, as a number. -/
def Sys2Proof.Forms.cell (s : State) (n : Nat) : Nat := (s.mem.read (BitVec.ofNat 16 n)).toNat

/-- `SetZN(r)` on numbers (10_state.md R18): Z says that `r` is zero, N that its bit 7 is 1. -/
def Sys2Proof.Forms.ZNDescribe (p : Status) (r : Byte) : Prop :=
  (p.z = true ↔ r.toNat = 0) ∧ (p.n = true ↔ 128 ≤ r.toNat)

/-- The 18 Ld forms: instruction, destination, effective value (42_load_transfer_increment.md R100). -/
def Sys2Proof.Forms.loads (imm a : Byte) (w : Word) (s : State) : List (Instr × Reg × Byte) :=
  [(.ldaImmediate imm, .a, imm),
   (.ldaZeroPage a, .a, effectiveValue (.zeroPage a) s),
   (.ldaZeroPageX a, .a, effectiveValue (.zeroPageX a) s),
   (.ldaAbsolute w, .a, effectiveValue (.absolute w) s),
   (.ldaAbsoluteX w, .a, effectiveValue (.absoluteX w) s),
   (.ldaAbsoluteY w, .a, effectiveValue (.absoluteY w) s),
   (.ldaIndirectX a, .a, effectiveValue (.indirectX a) s),
   (.ldaIndirectY a, .a, effectiveValue (.indirectY a) s),
   (.ldxImmediate imm, .x, imm),
   (.ldxZeroPage a, .x, effectiveValue (.zeroPage a) s),
   (.ldxZeroPageY a, .x, effectiveValue (.zeroPageY a) s),
   (.ldxAbsolute w, .x, effectiveValue (.absolute w) s),
   (.ldxAbsoluteY w, .x, effectiveValue (.absoluteY w) s),
   (.ldyImmediate imm, .y, imm),
   (.ldyZeroPage a, .y, effectiveValue (.zeroPage a) s),
   (.ldyZeroPageX a, .y, effectiveValue (.zeroPageX a) s),
   (.ldyAbsolute w, .y, effectiveValue (.absolute w) s),
   (.ldyAbsoluteX w, .y, effectiveValue (.absoluteX w) s)]

/-- The eight ADC forms: instruction, effective value (43_arithmetic_logic.md R130). -/
def Sys2Proof.Forms.adcs (imm a : Byte) (w : Word) (s : State) : List (Instr × Byte) :=
  [(.adcImmediate imm, imm),
   (.adcZeroPage a, effectiveValue (.zeroPage a) s),
   (.adcZeroPageX a, effectiveValue (.zeroPageX a) s),
   (.adcAbsolute w, effectiveValue (.absolute w) s),
   (.adcAbsoluteX w, effectiveValue (.absoluteX w) s),
   (.adcAbsoluteY w, effectiveValue (.absoluteY w) s),
   (.adcIndirectX a, effectiveValue (.indirectX a) s),
   (.adcIndirectY a, effectiveValue (.indirectY a) s)]

/-- The eight AND forms: instruction, effective value (43_arithmetic_logic.md R139). -/
def Sys2Proof.Forms.ands (imm a : Byte) (w : Word) (s : State) : List (Instr × Byte) :=
  [(.andImmediate imm, imm),
   (.andZeroPage a, effectiveValue (.zeroPage a) s),
   (.andZeroPageX a, effectiveValue (.zeroPageX a) s),
   (.andAbsolute w, effectiveValue (.absolute w) s),
   (.andAbsoluteX w, effectiveValue (.absoluteX w) s),
   (.andAbsoluteY w, effectiveValue (.absoluteY w) s),
   (.andIndirectX a, effectiveValue (.indirectX a) s),
   (.andIndirectY a, effectiveValue (.indirectY a) s)]

/-- The four ASL forms with a memory mode: instruction, mode (43_arithmetic_logic.md R148). -/
def Sys2Proof.Forms.shifts (a : Byte) (w : Word) : List (Instr × MemMode) :=
  [(.aslZeroPage a, (.zeroPage a)),
   (.aslZeroPageX a, (.zeroPageX a)),
   (.aslAbsolute w, (.absolute w)),
   (.aslAbsoluteX w, (.absoluteX w))]

/-- The two BIT forms: instruction, effective value (43_arithmetic_logic.md R154). -/
def Sys2Proof.Forms.bits (a : Byte) (w : Word) (s : State) : List (Instr × Byte) :=
  [(.bitZeroPage a, effectiveValue (.zeroPage a) s),
   (.bitAbsolute w, effectiveValue (.absolute w) s)]

/-- The 14 Cmp forms: instruction, compared register, effective value (45_compare.md R170). -/
def Sys2Proof.Forms.compares (imm a : Byte) (w : Word) (s : State) : List (Instr × Reg × Byte) :=
  [(.cmpImmediate imm, .a, imm),
   (.cmpZeroPage a, .a, effectiveValue (.zeroPage a) s),
   (.cmpZeroPageX a, .a, effectiveValue (.zeroPageX a) s),
   (.cmpAbsolute w, .a, effectiveValue (.absolute w) s),
   (.cmpAbsoluteX w, .a, effectiveValue (.absoluteX w) s),
   (.cmpAbsoluteY w, .a, effectiveValue (.absoluteY w) s),
   (.cmpIndirectX a, .a, effectiveValue (.indirectX a) s),
   (.cmpIndirectY a, .a, effectiveValue (.indirectY a) s),
   (.cpxImmediate imm, .x, imm),
   (.cpxZeroPage a, .x, effectiveValue (.zeroPage a) s),
   (.cpxAbsolute w, .x, effectiveValue (.absolute w) s),
   (.cpyImmediate imm, .y, imm),
   (.cpyZeroPage a, .y, effectiveValue (.zeroPage a) s),
   (.cpyAbsolute w, .y, effectiveValue (.absolute w) s)]

/-- The eight branches: instruction, flag, branch_if (44_branch.md R160, table "Branch selectors"). -/
def Sys2Proof.Forms.branches (off : Byte) : List (Instr × Flag × Bool) :=
  [(.bcc off, .carry, false),
   (.bcs off, .carry, true),
   (.beq off, .zero, true),
   (.bmi off, .negative, true),
   (.bne off, .zero, false),
   (.bpl off, .negative, false),
   (.bvc off, .overflow, false),
   (.bvs off, .overflow, true)]

/-- The four clear instructions: instruction, flag (41_break_clear.md R91). -/
def Sys2Proof.Forms.clears : List (Instr × Flag) :=
  [(.clc, .carry),
   (.cld, .decimal),
   (.cli, .interruptDisable),
   (.clv, .overflow)]

/-- The opcode map of 30_encoding.md R58 sorted by opcode, first half: bytes in memory order, variant. -/
def Sys2Proof.Forms.opcodeTableLow (b lo hi : Byte) : List (List Byte × Variant) :=
  [([0x00#8], .brk),
   ([0x06#8, b], .asl (.mem (.zeroPage b))),
   ([0x0A#8], .asl .accumulator),
   ([0x0E#8, lo, hi], .asl (.mem (.absolute (hi ++ lo)))),
   ([0x10#8, b], .branch (.relative b) .negative false),
   ([0x16#8, b], .asl (.mem (.zeroPageX b))),
   ([0x18#8], .clear .carry),
   ([0x1E#8, lo, hi], .asl (.mem (.absoluteX (hi ++ lo)))),
   ([0x21#8, b], .and (.mem (.indirectX b))),
   ([0x24#8, b], .bit (.mem (.zeroPage b))),
   ([0x25#8, b], .and (.mem (.zeroPage b))),
   ([0x29#8, b], .and (.immediate b)),
   ([0x2C#8, lo, hi], .bit (.mem (.absolute (hi ++ lo)))),
   ([0x2D#8, lo, hi], .and (.mem (.absolute (hi ++ lo)))),
   ([0x30#8, b], .branch (.relative b) .negative true),
   ([0x31#8, b], .and (.mem (.indirectY b))),
   ([0x35#8, b], .and (.mem (.zeroPageX b))),
   ([0x39#8, lo, hi], .and (.mem (.absoluteY (hi ++ lo)))),
   ([0x3D#8, lo, hi], .and (.mem (.absoluteX (hi ++ lo)))),
   ([0x50#8, b], .branch (.relative b) .overflow false),
   ([0x58#8], .clear .interruptDisable),
   ([0x61#8, b], .adc (.mem (.indirectX b))),
   ([0x65#8, b], .adc (.mem (.zeroPage b))),
   ([0x69#8, b], .adc (.immediate b)),
   ([0x6D#8, lo, hi], .adc (.mem (.absolute (hi ++ lo)))),
   ([0x70#8, b], .branch (.relative b) .overflow true),
   ([0x71#8, b], .adc (.mem (.indirectY b))),
   ([0x75#8, b], .adc (.mem (.zeroPageX b))),
   ([0x79#8, lo, hi], .adc (.mem (.absoluteY (hi ++ lo)))),
   ([0x7D#8, lo, hi], .adc (.mem (.absoluteX (hi ++ lo)))),
   ([0x90#8, b], .branch (.relative b) .carry false),
   ([0xA0#8, b], .ld .y (.immediate b)),
   ([0xA1#8, b], .ld .a (.mem (.indirectX b))),
   ([0xA2#8, b], .ld .x (.immediate b)),
   ([0xA4#8, b], .ld .y (.mem (.zeroPage b)))]

/-- The opcode map of 30_encoding.md R58 sorted by opcode, second half: bytes in memory order, variant. -/
def Sys2Proof.Forms.opcodeTableHigh (b lo hi : Byte) : List (List Byte × Variant) :=
  [([0xA5#8, b], .ld .a (.mem (.zeroPage b))),
   ([0xA6#8, b], .ld .x (.mem (.zeroPage b))),
   ([0xA9#8, b], .ld .a (.immediate b)),
   ([0xAA#8], .trr .a .x),
   ([0xAC#8, lo, hi], .ld .y (.mem (.absolute (hi ++ lo)))),
   ([0xAD#8, lo, hi], .ld .a (.mem (.absolute (hi ++ lo)))),
   ([0xAE#8, lo, hi], .ld .x (.mem (.absolute (hi ++ lo)))),
   ([0xB0#8, b], .branch (.relative b) .carry true),
   ([0xB1#8, b], .ld .a (.mem (.indirectY b))),
   ([0xB4#8, b], .ld .y (.mem (.zeroPageX b))),
   ([0xB5#8, b], .ld .a (.mem (.zeroPageX b))),
   ([0xB6#8, b], .ld .x (.mem (.zeroPageY b))),
   ([0xB8#8], .clear .overflow),
   ([0xB9#8, lo, hi], .ld .a (.mem (.absoluteY (hi ++ lo)))),
   ([0xBC#8, lo, hi], .ld .y (.mem (.absoluteX (hi ++ lo)))),
   ([0xBD#8, lo, hi], .ld .a (.mem (.absoluteX (hi ++ lo)))),
   ([0xBE#8, lo, hi], .ld .x (.mem (.absoluteY (hi ++ lo)))),
   ([0xC0#8, b], .cmp .y (.immediate b)),
   ([0xC1#8, b], .cmp .a (.mem (.indirectX b))),
   ([0xC4#8, b], .cmp .y (.mem (.zeroPage b))),
   ([0xC5#8, b], .cmp .a (.mem (.zeroPage b))),
   ([0xC9#8, b], .cmp .a (.immediate b)),
   ([0xCC#8, lo, hi], .cmp .y (.mem (.absolute (hi ++ lo)))),
   ([0xCD#8, lo, hi], .cmp .a (.mem (.absolute (hi ++ lo)))),
   ([0xD0#8, b], .branch (.relative b) .zero false),
   ([0xD1#8, b], .cmp .a (.mem (.indirectY b))),
   ([0xD5#8, b], .cmp .a (.mem (.zeroPageX b))),
   ([0xD8#8], .clear .decimal),
   ([0xD9#8, lo, hi], .cmp .a (.mem (.absoluteY (hi ++ lo)))),
   ([0xDD#8, lo, hi], .cmp .a (.mem (.absoluteX (hi ++ lo)))),
   ([0xE0#8, b], .cmp .x (.immediate b)),
   ([0xE4#8, b], .cmp .x (.mem (.zeroPage b))),
   ([0xE8#8], .inc .x),
   ([0xEC#8, lo, hi], .cmp .x (.mem (.absolute (hi ++ lo)))),
   ([0xF0#8, b], .branch (.relative b) .zero true)]

/-- The 186 invalid opcode bytes as the ranges of 30_encoding.md section 5, first and last byte. -/
def Sys2Proof.Forms.invalidRanges : List (Nat × Nat) :=
  [(0x01, 0x05), (0x07, 0x09), (0x0B, 0x0D), (0x0F, 0x0F), (0x11, 0x15), (0x17, 0x17),
   (0x19, 0x1D), (0x1F, 0x20), (0x22, 0x23), (0x26, 0x28), (0x2A, 0x2B), (0x2E, 0x2F),
   (0x32, 0x34), (0x36, 0x38), (0x3A, 0x3C), (0x3E, 0x4F), (0x51, 0x57), (0x59, 0x60),
   (0x62, 0x64), (0x66, 0x68), (0x6A, 0x6C), (0x6E, 0x6F), (0x72, 0x74), (0x76, 0x78),
   (0x7A, 0x7C), (0x7E, 0x8F), (0x91, 0x9F), (0xA3, 0xA3), (0xA7, 0xA8), (0xAB, 0xAB),
   (0xAF, 0xAF), (0xB2, 0xB3), (0xB7, 0xB7), (0xBA, 0xBB), (0xBF, 0xBF), (0xC2, 0xC3),
   (0xC6, 0xC8), (0xCA, 0xCB), (0xCE, 0xCF), (0xD2, 0xD4), (0xD6, 0xD7), (0xDA, 0xDC),
   (0xDE, 0xDF), (0xE1, 0xE3), (0xE5, 0xE7), (0xE9, 0xEB), (0xED, 0xEF), (0xF1, 0xFF)]

/-- Which registers a family writes (10_state.md section 1, column "Written by"). -/
def Sys2Proof.Forms.writesReg (r : Reg) : Variant → Prop
  | .ld dest _ | .trr _ dest | .inc dest => r = dest
  | .adc _ | .and _ | .asl .accumulator => r = .a
  | _ => False

/-- Which flags a family writes (10_state.md R18, column "Written by"; INX with `IN_SETS_OVERFLOW` false). -/
def Sys2Proof.Forms.writesFlag : Flag → Variant → Prop
  | f, .clear g => f = g
  | .carry, .adc _ | .carry, .asl _ | .carry, .cmp _ _ => True
  | .zero, .ld _ _ | .zero, .trr _ _ | .zero, .inc _ | .zero, .adc _ | .zero, .and _ => True
  | .zero, .asl _ | .zero, .cmp _ _ | .zero, .bit _ => True
  | .negative, .ld _ _ | .negative, .trr _ _ | .negative, .inc _ | .negative, .adc _ => True
  | .negative, .and _ | .negative, .asl _ | .negative, .cmp _ _ | .negative, .bit _ => True
  | .overflow, .adc _ | .overflow, .bit _ => True
  | _, _ => False

open Sys2Proof.Forms

/-! ## Encoding -/

/-- Derived (30_encoding.md R55, R56, R58): every operand at every value survives the encoding. -/
def Obligations.EncodeThenDecodeGivesTheInstruction : Prop :=
  ∀ (i : Instr) (rest : List Byte), decode (encode i ++ rest) = .ok (i, rest)

/-- Derived (30_encoding.md R58, R60): no bit of a valid instruction is ignored. -/
def Obligations.DecodedBytesAreTheEncoding : Prop :=
  ∀ (bytes : List Byte) (i : Instr) (rest : List Byte),
    decode bytes = .ok (i, rest) → bytes = encode i ++ rest

/-- Derived (30_encoding.md R58, R66; D3 to D5, log 10): the opcode map written out a second time. -/
def Obligations.OpcodeTableRowsDecode : Prop :=
  ∀ (b lo hi : Byte), ∀ row ∈ opcodeTableLow b lo hi ++ opcodeTableHigh b lo hi,
    ∃ i, decode row.1 = .ok (i, []) ∧ i.variant = row.2

/-- Derived (30_encoding.md R59; D2, log 11). -/
def Obligations.InvalidBytesAreRejectedByName : Prop :=
  ∀ (b : Byte) (rest : List Byte),
    decode (b :: rest) = .error (.invalidInstructionCode b) ↔
      ∃ r ∈ invalidRanges, r.1 ≤ b.toNat ∧ b.toNat ≤ r.2

/-- Derived (95_test_vectors.md section 3, vectors DEC-1 to DEC-20): the opcodes 0xB6, 0xAD, 0x1E, 0xD0, 0x31,
0x61 and 0x2C, modes, selectors and the low byte first are D3 to D5 and D8 (log 10), the rejection of 0xEA is D2
(log 11). -/
def Obligations.WrittenWordsDecode : Prop :=
  decode [0xB6#8, 0x80#8] = .ok (.ldxZeroPageY 0x80#8, []) ∧
  decode [0xAD#8, 0x34#8, 0x12#8] = .ok (.ldaAbsolute 0x1234#16, []) ∧
  decode [0x1E#8, 0xFF#8, 0x00#8] = .ok (.aslAbsoluteX 0x00FF#16, []) ∧
  decode [0xD0#8, 0xFB#8] = .ok (.bne 0xFB#8, []) ∧
  decode [0xE0#8, 0x10#8] = .ok (.cpxImmediate 0x10#8, []) ∧
  decode [0xAA#8] = .ok (.tax, []) ∧
  decode [0xE8#8] = .ok (.inx, []) ∧
  decode [0xB8#8] = .ok (.clv, []) ∧
  decode [0x00#8] = .ok (.brk, []) ∧
  decode [0x31#8, 0x44#8] = .ok (.andIndirectY 0x44#8, []) ∧
  decode [0x61#8, 0x44#8] = .ok (.adcIndirectX 0x44#8, []) ∧
  decode [0x2C#8, 0x00#8, 0x80#8] = .ok (.bitAbsolute 0x8000#16, []) ∧
  decode [0xEA#8] = .error (.invalidInstructionCode 0xEA#8)

/-- Derived (40_addressing_modes.md R85, R86; D4, D5, log 10). -/
def Obligations.WellFormedVariantsAreTheInstructions : Prop :=
  ∀ v : Variant, v.wellFormed = true ↔ ∃ i : Instr, i.variant = v

/-! ## The step -/

/-- Derived (70_reset_and_hazards.md R226; 30_encoding.md R54, R55). -/
def Obligations.StepRunsTheDecodedInstruction : Prop :=
  ∀ (s : State) (i : Instr) (rest : List Byte), s.rs = .ready →
    decode (bytesAtPc s) = .ok (i, rest) →
    step s = exec i { s with pc := s.pc + BitVec.ofNat 16 i.length }

/-- Derived (60_exceptions.md R205; that PC stays is the decision D11, log 7). -/
def Obligations.InvalidOpcodeEntersFaulted : Prop :=
  ∀ s : State, s.rs = .ready → (∀ i : Instr, opcode i ≠ s.mem.read s.pc) →
    step s = .next { s with
      rs := .faulted, fr := some (.invalidInstructionCode (s.mem.read s.pc) s.pc) }

/-- Derived (70_reset_and_hazards.md R226, D10; the answer `next` is the model's choice, log 1). -/
def Obligations.StoppedMachineKeepsItsState : Prop :=
  ∀ (s : State) (k : Nat), s.rs ≠ .ready → step s = .next s ∧ Sys2Proof.core.run k s = .next s

/-- Derived (00_scope.md R2; 20_memory.md R30; 95_test_vectors.md section 8, property 1, which is about Ready): that
a step in Halted or Faulted answers `next` is the model's choice, log 1. -/
def Obligations.EveryStepAnswersANextState : Prop :=
  ∀ s : State, ∃! t : State, step s = .next t

/-- Derived (60_exceptions.md R201, R208; 41_break_clear.md R90; D9, log 9). -/
def Obligations.OnlyBrkHaltsAndOnlyInvalidOpcodesFault : Prop :=
  ∀ s t : State, s.rs = .ready → step s = .next t →
    (t.rs = .halted ↔ s.mem.read s.pc = 0x00#8) ∧
    (t.rs = .halted → t = { s with pc := s.pc + 1#16, rs := .halted }) ∧
    (t.rs = .faulted ↔ ∀ i : Instr, opcode i ≠ s.mem.read s.pc)

/-- Derived (10_state.md R14; 30_encoding.md R54; 95_test_vectors.md section 8, property 9). For BRK the PC
afterwards is D9, log 9; branches are in `BranchesMoveOnlyThePc`. -/
def Obligations.NonBranchAdvancesByItsLength : Prop :=
  ∀ (s t : State) (i : Instr) (rest : List Byte), s.rs = .ready →
    decode (bytesAtPc s) = .ok (i, rest) → (∀ m f b, i.variant ≠ .branch m f b) →
    step s = .next t →
    t.pc.toNat = (s.pc.toNat + i.length) % 65536 ∧ 1 ≤ i.length ∧ i.length ≤ 3

/-- Derived (20_memory.md R42; 95_test_vectors.md section 8, property 4). -/
def Obligations.MemoryChangesOnlyByShift : Prop :=
  ∀ (s t : State) (b : Word), s.mem.wf = true → step s = .next t →
    t.mem.read b ≠ s.mem.read b →
    s.rs = .ready ∧ ∃ i rest m, decode (bytesAtPc s) = .ok (i, rest) ∧
      i.variant = .asl (.mem m) ∧ b = effectiveAddress m s

/-- Derived (10_state.md R12, R22; D21, log 16; that only RS gates stepping is D13, log 8). -/
def Obligations.StackPointerAndRecordAreInert : Prop :=
  ∀ s t : State, step s = .next t →
    t.sp = s.sp ∧
    (∀ s', SameButSp s s' → ∃ t', step s' = .next t' ∧ SameButSp t t' ∧ t'.sp = s'.sp) ∧
    (∀ s', SameButRecord s s' → ∃ t', step s' = .next t' ∧ SameButRecord t t')

/-- Derived (10_state.md R18, R19; 41_break_clear.md R91, R93, R94): the opcode 0x58 and the pairings are D3 and D5,
log 10; the absence of interrupts is D15, log 16. -/
def Obligations.InterruptAndDecimalFlagsHaveNoEffect : Prop :=
  ∀ s t : State, step s = .next t →
    (∀ s', SameButID s s' → ∃ t', step s' = .next t' ∧ SameButID t t') ∧
    (t.p.i ≠ s.p.i → s.rs = .ready ∧ s.mem.read s.pc = 0x58#8) ∧
    (t.p.d ≠ s.p.d → s.rs = .ready ∧ s.mem.read s.pc = 0xD8#8) ∧
    (s.rs = .ready → s.mem.read s.pc = 0x58#8 → t.p.i = false) ∧
    (s.rs = .ready → s.mem.read s.pc = 0xD8#8 → t.p.d = false) ∧
    (t.p.i = true → s.p.i = true) ∧ (t.p.d = true → s.p.d = true)

/-! ## Instructions -/

/-- Derived (41_break_clear.md R90; 60_exceptions.md R208; D9, log 9). -/
def Obligations.BrkHalts : Prop :=
  ∀ s : State, ∃ t, exec .brk s = .next t ∧ t.rs = .halted ∧ t = { s with rs := t.rs }

/-- Derived (41_break_clear.md R91 to R95; the pairing is D5, log 10). -/
def Obligations.ClearInstructionsClearOneFlag : Prop :=
  ∀ s : State, ∀ f ∈ clears, ∃ t, exec f.1 s = .next t ∧
    t.p.get f.2 = false ∧ (∀ g, g ≠ f.2 → t.p.get g = s.p.get g) ∧ t = { s with p := t.p }

/-- 42_load_transfer_increment.md R100. -/
def Obligations.LoadsWriteTheEffectiveValue : Prop :=
  ∀ (s : State) (imm a : Byte) (w : Word), ∀ f ∈ loads imm a w s, ∃ t, exec f.1 s = .next t ∧
    t.reg f.2.1 = f.2.2 ∧ (∀ r, r ≠ f.2.1 → t.reg r = s.reg r) ∧ ZNDescribe t.p f.2.2 ∧
    t = { s with a := t.a, x := t.x, y := t.y, p := { s.p with z := t.p.z, n := t.p.n } } ∧
    ∀ b, t.mem.read b = s.mem.read b

/-- Derived (42_load_transfer_increment.md R119, R120; TAX = (A, X) is D5, log 10). -/
def Obligations.TaxAndTransferCopyTheOrigin : Prop :=
  ∀ s : State, exec .tax s = .next (transfer .a .x s) ∧
    ∀ origin dest : Reg, ∃ t, transfer origin dest s = t ∧
      t.reg dest = s.reg origin ∧ (∀ r, r ≠ dest → t.reg r = s.reg r) ∧
      ZNDescribe t.p (s.reg origin) ∧
      t = { s with a := t.a, x := t.x, y := t.y, p := { s.p with z := t.p.z, n := t.p.n } }

/-- Derived (42_load_transfer_increment.md R121, R122; V untouched is D6, log 5). -/
def Obligations.InxIncrementsX : Prop :=
  ∀ s : State, ∃ t, exec .inx s = .next t ∧
    t.x.toNat = (s.x.toNat + 1) % 256 ∧ ZNDescribe t.p t.x ∧
    t = { s with x := t.x, p := { s.p with z := t.p.z, n := t.p.n } }

/-- Derived (42_load_transfer_increment.md R121; the formula is the reading of D6, log 5). -/
def Obligations.IncrementParameterWritesOverflow : Prop :=
  ∀ (s : State) (r : Reg), ∃ t u, increment true r s = t ∧ increment false r s = u ∧
    (t.p.v = true ↔ (s.reg r).toNat = 255) ∧ u.p.v = s.p.v ∧
    t = { u with p := { u.p with v := t.p.v } }

/-- 43_arithmetic_logic.md R130, with its sign-bit form of the overflow condition. -/
def Obligations.AdcAddsWithCarry : Prop :=
  ∀ (s : State) (imm a : Byte) (w : Word), ∀ f ∈ adcs imm a w s, ∃ t, exec f.1 s = .next t ∧
    t.a.toNat = (s.a.toNat + f.2.toNat + s.p.c.toNat) % 256 ∧
    (t.p.c = true ↔ 255 < s.a.toNat + f.2.toNat + s.p.c.toNat) ∧
    (t.p.v = true ↔ s.a.toInt + f.2.toInt + (s.p.c.toNat : Int) < -128 ∨
      127 < s.a.toInt + f.2.toInt + (s.p.c.toNat : Int)) ∧
    (t.p.v = true ↔ (s.a ^^^ t.a) &&& (f.2 ^^^ t.a) &&& 0x80#8 ≠ 0x00#8) ∧
    ZNDescribe t.p t.a ∧
    t = { s with a := t.a,
                 p := { s.p with c := t.p.c, v := t.p.v, z := t.p.z, n := t.p.n } } ∧
    ∀ b, t.mem.read b = s.mem.read b

/-- 43_arithmetic_logic.md R139. -/
def Obligations.AndMasksTheAccumulator : Prop :=
  ∀ (s : State) (imm a : Byte) (w : Word), ∀ f ∈ ands imm a w s, ∃ t, exec f.1 s = .next t ∧
    (∀ k : Nat, t.a.toNat.testBit k = (s.a.toNat.testBit k && f.2.toNat.testBit k)) ∧
    ZNDescribe t.p t.a ∧
    t = { s with a := t.a, p := { s.p with z := t.p.z, n := t.p.n } } ∧
    ∀ b, t.mem.read b = s.mem.read b

/-- 43_arithmetic_logic.md R148. -/
def Obligations.AslShiftsLeftByOne : Prop :=
  ∀ (s : State) (a : Byte) (w : Word),
    (∃ t, exec .aslAccumulator s = .next t ∧
      t.a.toNat = 2 * s.a.toNat % 256 ∧ (t.p.c = true ↔ 128 ≤ s.a.toNat) ∧ ZNDescribe t.p t.a ∧
      t = { s with a := t.a, p := { s.p with c := t.p.c, z := t.p.z, n := t.p.n } } ∧
      ∀ b, t.mem.read b = s.mem.read b) ∧
    ∀ f ∈ shifts a w, s.mem.wf = true → ∃ t, exec f.1 s = .next t ∧
      (t.mem.read (effectiveAddress f.2 s)).toNat =
        2 * (s.mem.read (effectiveAddress f.2 s)).toNat % 256 ∧
      (∀ b, b ≠ effectiveAddress f.2 s → t.mem.read b = s.mem.read b) ∧
      (t.p.c = true ↔ 128 ≤ (s.mem.read (effectiveAddress f.2 s)).toNat) ∧
      ZNDescribe t.p (t.mem.read (effectiveAddress f.2 s)) ∧
      t = { s with mem := t.mem, p := { s.p with c := t.p.c, z := t.p.z, n := t.p.n } }

/-- 43_arithmetic_logic.md R154. -/
def Obligations.BitTestsTheOperand : Prop :=
  ∀ (s : State) (a : Byte) (w : Word), ∀ f ∈ bits a w s, ∃ t, exec f.1 s = .next t ∧
    (t.p.n = true ↔ 128 ≤ f.2.toNat) ∧ (t.p.v = true ↔ 64 ≤ f.2.toNat % 128) ∧
    (t.p.z = true ↔ ∀ k : Nat, ¬(s.a.toNat.testBit k = true ∧ f.2.toNat.testBit k = true)) ∧
    t = { s with p := { s.p with n := t.p.n, v := t.p.v, z := t.p.z } } ∧
    ∀ b, t.mem.read b = s.mem.read b

/-- Derived (44_branch.md R160 to R168; the pairing is D5, log 10). -/
def Obligations.BranchesMoveOnlyThePc : Prop :=
  ∀ (s : State) (off : Byte), ∀ f ∈ branches off, ∃ t, exec f.1 s = .next t ∧
    (s.p.get f.2.1 = f.2.2 → (t.pc.toNat : Int) = ((s.pc.toNat : Int) + off.toInt) % 65536) ∧
    (s.p.get f.2.1 ≠ f.2.2 → t.pc = s.pc) ∧
    t = { s with pc := t.pc }

/-- 45_compare.md R170. -/
def Obligations.ComparesSetCarryZeroNegative : Prop :=
  ∀ (s : State) (imm a : Byte) (w : Word), ∀ f ∈ compares imm a w s, ∃ t, exec f.1 s = .next t ∧
    (t.p.c = true ↔ f.2.2.toNat ≤ (s.reg f.2.1).toNat) ∧
    (t.p.z = true ↔ s.reg f.2.1 = f.2.2) ∧
    (t.p.n = true ↔ 128 ≤ ((s.reg f.2.1).toNat + 256 - f.2.2.toNat) % 256) ∧
    t = { s with p := { s.p with c := t.p.c, z := t.p.z, n := t.p.n } } ∧
    ∀ b, t.mem.read b = s.mem.read b

/-- Derived (10_state.md section 1 and R18; 20_memory.md R42). That INX keeps V is D6, log 5; that BRK keeps the
post-decode PC is D9, log 9. -/
def Obligations.ExecFrame : Prop :=
  ∀ (i : Instr) (s t : State), exec i s = .next t →
    (∀ r, ¬ writesReg r i.variant → t.reg r = s.reg r) ∧
    (∀ f, ¬ writesFlag f i.variant → t.p.get f = s.p.get f) ∧
    t.sp = s.sp ∧ t.fr = s.fr ∧
    (i.variant ≠ .brk → t.rs = s.rs) ∧
    ((∀ m f b, i.variant ≠ .branch m f b) → t.pc = s.pc) ∧
    ((∀ m, i.variant ≠ .asl (.mem m)) → ∀ b, t.mem.read b = s.mem.read b) ∧
    (∀ m, i.variant = .asl (.mem m) → s.mem.wf = true →
      ∀ b, b ≠ effectiveAddress m s → t.mem.read b = s.mem.read b)

/-- Derived (30_encoding.md R57, R66): the flat dispatch agrees with the variant tree. -/
def Obligations.ExecIsTheFamilyRule : Prop :=
  ∀ (i : Instr) (s t : State), exec i s = .next t ↔ executeVariant i.variant s = some t

/-! ## Addressing modes -/

/-- 40_addressing_modes.md R73 to R75, R77 to R81, R83. -/
def Obligations.EffectiveAddressFormulas : Prop :=
  ∀ (s : State) (a : Byte) (w : Word),
    (effectiveAddress (.zeroPage a) s).toNat = a.toNat ∧
    (effectiveAddress (.zeroPageX a) s).toNat = (a.toNat + s.x.toNat) % 256 ∧
    (effectiveAddress (.zeroPageY a) s).toNat = (a.toNat + s.y.toNat) % 256 ∧
    (effectiveAddress (.absolute w) s).toNat = w.toNat ∧
    (effectiveAddress (.absoluteX w) s).toNat = (w.toNat + s.x.toNat) % 65536 ∧
    (effectiveAddress (.absoluteY w) s).toNat = (w.toNat + s.y.toNat) % 65536 ∧
    (effectiveAddress (.indirectX a) s).toNat =
      cell s ((a.toNat + s.x.toNat) % 256) +
        256 * cell s (((a.toNat + s.x.toNat) % 256 + 1) % 256) ∧
    (effectiveAddress (.indirectY a) s).toNat =
      (cell s a.toNat + 256 * cell s ((a.toNat + 1) % 256) + s.y.toNat) % 65536 ∧
    ∀ m : MemMode, (effectiveValue m s).toNat = cell s (effectiveAddress m s).toNat

/-- 40_addressing_modes.md R76. -/
def Obligations.RelativeTargetFormula : Prop :=
  ∀ (s : State) (off : Byte),
    ((relativeTarget off s).toNat : Int) =
      ((s.pc.toNat : Int) + if off.toNat ≤ 0x7F then (off.toNat : Int) else (off.toNat : Int) - 256)
        % 65536 ∧
    addressOf (.relative off) s = some (relativeTarget off s) ∧ valueOf (.relative off) s = none

/-- 40_addressing_modes.md R70, R82. -/
def Obligations.ModeCapabilities : Prop :=
  ∀ (s : State) (mode : Mode),
    ((addressOf mode s).isSome = true ↔ mode ≠ .accumulator ∧ ∀ imm, mode ≠ .immediate imm) ∧
    ((valueOf mode s).isSome = true ↔ mode ≠ .accumulator ∧ ∀ off, mode ≠ .relative off) ∧
    (∀ imm, mode = .immediate imm → valueOf mode s = some imm) ∧
    (∀ ea v, addressOf mode s = some ea → valueOf mode s = some v → v = s.mem.read ea)

/-! ## Status register -/

/-- 10_state.md R17. -/
def Obligations.FlagSetAndGet : Prop :=
  ∀ (s : State) (f g : Flag) (b : Bool),
    (s.p.set f b).get g = (if g = f then b else s.p.get g) ∧ s.applyReset.p.get f = false

/-- 10_state.md R15. -/
def Obligations.PackedStatusLayout : Prop :=
  ∀ p : Status,
    p.packed.getLsbD 0 = p.get .carry ∧ p.packed.getLsbD 1 = p.get .zero ∧
    p.packed.getLsbD 2 = p.get .interruptDisable ∧ p.packed.getLsbD 3 = p.get .decimal ∧
    p.packed.getLsbD 4 = false ∧ p.packed.getLsbD 5 = false ∧
    p.packed.getLsbD 6 = p.get .overflow ∧ p.packed.getLsbD 7 = p.get .negative

/-! ## Memory and the host's operations -/

/-- 20_memory.md R32, R33. -/
def Obligations.WordAccessesAreLittleEndianAndWrap : Prop :=
  ∀ (s : State) (a w : Word), s.mem.wf = true →
    (s.mem.readU16 a).toNat =
      cell s a.toNat + 256 * cell s ((a.toNat + 1) % 65536) ∧
    ∃ t, (HostOp.writeU16 a w).apply s = .next t ∧ t.mem.readU16 a = w ∧
      cell t a.toNat = w.toNat % 256 ∧ cell t ((a.toNat + 1) % 65536) = w.toNat / 256 ∧
      (∀ b : Word, b ≠ a → b.toNat ≠ (a.toNat + 1) % 65536 → t.mem.read b = s.mem.read b) ∧
      t = { s with mem := t.mem }

/-- 20_memory.md R35. -/
def Obligations.LoadCopiesTheBytes : Prop :=
  ∀ (s : State) (addr : Word) (bytes : List Byte), s.mem.wf = true →
    ((∃ e, (hostLoad addr bytes s).2 = some (.indexOutOfBounds e)) ↔
      65536 < addr.toNat + bytes.length) ∧
    (addr.toNat + bytes.length ≤ 65536 → ∃ t, hostLoad addr bytes s = (t, none) ∧
      (∀ (i : Nat) (h : i < bytes.length), cell t (addr.toNat + i) = (bytes[i]).toNat) ∧
      (∀ b : Word, b.toNat < addr.toNat ∨ addr.toNat + bytes.length ≤ b.toNat →
        t.mem.read b = s.mem.read b) ∧
      (∀ b0 b1 rest, bytes = b0 :: b1 :: rest →
        (t.mem.readU16 addr).toNat = b1.toNat * 256 + b0.toNat) ∧
      (bytes = [] → t = s) ∧ t = { s with mem := t.mem })

/-- Derived (60_exceptions.md R202; 20_memory.md R36; D13, log 8). -/
def Obligations.LoadOutOfBoundsIsRecorded : Prop :=
  ∀ (s : State) (bytes : List Byte),
    (∀ addr : Word, 65536 < addr.toNat + bytes.length → ∃ t,
      hostLoad addr bytes s = (t, some (.indexOutOfBounds addr)) ∧
      t.fr = some (.indexOutOfBounds addr) ∧ t = { s with mem := t.mem, fr := t.fr }) ∧
    (32768 < bytes.length → (loadProgram bytes s).2 = some (.indexOutOfBounds 0x8000#16))

/-- Derived (10_state.md R20: "Every Word addresses a defined Byte"; the canonical form is the model's, log 6). -/
def Obligations.CanonicalMemoriesThatReadTheSameAreEqual : Prop :=
  ∀ m n : Memory, m.wf = true → n.wf = true → (∀ b : Word, m.read b = n.read b) → m = n

/-- Derived (10_state.md R26; 20_memory.md R31; 70_reset_and_hazards.md R233; D22, log 16). -/
def Obligations.HostWritesTouchOnlyTheirTarget : Prop :=
  ∀ (s : State) (r : Reg) (v : Byte) (w : Word) (f : Flag) (b : Bool),
    (∃ t, (HostOp.writeReg r v).apply s = .next t ∧ t.reg r = v ∧ (∀ q, q ≠ r → t.reg q = s.reg q) ∧
      t = { s with a := t.a, x := t.x, y := t.y }) ∧
    (∃ t, (HostOp.setFlag f b).apply s = .next t ∧ t.p.get f = b ∧
      (∀ g, g ≠ f → t.p.get g = s.p.get g) ∧ t = { s with p := t.p }) ∧
    (HostOp.writeSp v).apply s = .next { s with sp := v } ∧
    (HostOp.writePc w).apply s = .next { s with pc := w } ∧
    (s.mem.wf = true → ∃ t, (HostOp.write w v).apply s = .next t ∧ t.mem.read w = v ∧
      (∀ c, c ≠ w → t.mem.read c = s.mem.read c) ∧ t = { s with mem := t.mem })

/-! ## Invariants -/

/-- Derived (10_state.md R24). -/
def Obligations.SafeInvariantHoldsAtReset : Prop :=
  State.reset.Inv ∧ create.Inv

/-- Derived (10_state.md R21, R22; 60_exceptions.md R205; that PC stays is D11, log 7). -/
def Obligations.StepKeepsSafeInvariant : Prop :=
  ∀ s t : State, s.Inv → step s = .next t →
    t.Inv ∧ (s.rs = .ready → t.rs = .faulted →
      t.fr = some (.invalidInstructionCode (t.mem.read t.pc) t.pc))

/-- Derived (70_reset_and_hazards.md R233; 10_state.md R21, R22). -/
def Obligations.HostOperationsKeepSafeInvariant : Prop :=
  ∀ (op : HostOp) (s t : State), s.Inv → op.apply s = .next t → t.Inv

/-- Derived (60_exceptions.md R209; 10_state.md R21, R22; D10, log 16). -/
def Obligations.OnlyResetLeavesStoppedStates : Prop :=
  ∀ (s : State),
    (∀ (op : HostOp) (t : State), s.rs ≠ .ready → op.apply s = .next t → t.rs ≠ s.rs →
      op = .create ∨ op = .reset ∨ op = .resetTest ∨ ∃ fuel program, op = .loadAndRun fuel program) ∧
    ∀ op ∈ [HostOp.create, HostOp.reset, HostOp.resetTest],
      ∃ t, op.apply s = .next t ∧ t.rs = .ready ∧ t.fr = none

/-! ## Reset and run -/

/-- Derived (70_reset_and_hazards.md R221, R222; 10_state.md R24; RS and FR by D10, log 16). -/
def Obligations.ResetValues : Prop :=
  ∀ s : State, ∃ t u, HostOp.reset.apply s = .next t ∧ HostOp.resetTest.apply s = .next u ∧
    t.a.toNat = 0 ∧ t.x.toNat = 0 ∧ t.y.toNat = 0 ∧ t.sp.toNat = 255 ∧
    (∀ f, t.p.get f = false) ∧ t.pc.toNat = cell s 0xFFFC + 256 * cell s 0xFFFD ∧
    t.mem = s.mem ∧ t.rs = .ready ∧ t.fr = none ∧ u = { t with pc := 0x8000#16 }

/-- Derived (70_reset_and_hazards.md R228, marked derived there; log 2). -/
def Obligations.ResetWithoutVectorEntersAtZero : Prop :=
  (∀ s : State, s.mem.read 0xFFFC#16 = 0x00#8 → s.mem.read 0xFFFD#16 = 0x00#8 →
    HostOp.reset.apply s = .next { State.reset with mem := s.mem }) ∧
  HostOp.reset.apply create = .next State.reset

/-- Derived (70_reset_and_hazards.md R224; fuel is log 14, the disabled step log 1). -/
def Obligations.RunIsTheRepeatedStep : Prop :=
  ∀ (fuel : Nat) (s : State), run fuel s = Sys2Proof.core.run fuel s

/-- Derived (70_reset_and_hazards.md R224; 60_exceptions.md R209; fuel is log 14; D10, log 16). -/
def Obligations.FinishedRunIsUnchangedByMoreFuel : Prop :=
  ∀ (fuel more : Nat) (s t : State), run fuel s = .next t → t.rs ≠ .ready →
    run (fuel + more) s = .next t

/-- Derived (70_reset_and_hazards.md R225; 60_exceptions.md R202; the address is D13, log 8). -/
def Obligations.LoadAndRunOfAnOversizedProgramDoesNotRun : Prop :=
  ∀ (fuel : Nat) (program : List Byte) (s : State), 32768 < program.length →
    ∃ t, loadAndRun fuel program s = .next t ∧ t.fr = some (.indexOutOfBounds 0x8000#16) ∧
      t = { s with mem := t.mem, fr := t.fr }

/-- Derived (70_reset_and_hazards.md R228, marked derived there; 95_test_vectors.md section 8, property
10). PC after BRK is D9, log 9; fuel is log 14. -/
def Obligations.LoadAndRunWithoutVectorHaltsAtOnce : Prop :=
  ∀ (fuel : Nat) (program : List Byte), program.length ≤ 32764 →
    loadAndRun (fuel + 1) program create =
      .next { State.reset with
        mem := Memory.copy [] 0x8000#16 program, pc := 0x0001#16, rs := .halted }

/-- Derived (30_encoding.md R55; 20_memory.md R46); the placing is the model's own, log 3. -/
def Obligations.PlacedWordIsTheOneThatRuns : Prop :=
  ∀ (s : State) (nbits w : Nat) (i : Instr), s.mem.wf = true → decodeTableWord nbits w = some i →
    step (s.withFetchWord nbits w) =
      exec i { s.withFetchWord nbits w with pc := s.pc + BitVec.ofNat 16 i.length }

/-! ## Parameters -/

/-- Derived (00_scope.md R4; 30_encoding.md R58, R59; the extent of the table is D2, log 11). -/
def Obligations.OpcodeCountsAreTheConfiguredOnes : Prop :=
  ((List.range 256).filter fun n =>
      (decode [BitVec.ofNat 8 n, 0x00#8, 0x00#8]).toOption.isSome).length = Config.numOpcodes ∧
  ((List.range 256).filter fun n =>
      (decode [BitVec.ofNat 8 n, 0x00#8, 0x00#8]).toOption.isNone).length =
    Config.numInvalidOpcodes ∧
  Config.numOpcodes = 70 ∧ Config.numInvalidOpcodes = 186

/-- Derived (00_scope.md R4; 60_exceptions.md R211; D16, log 16). -/
def Obligations.OnePrivilegeModePermitsEveryInstruction : Prop :=
  (∃ modes : List Config.PrivilegeMode, modes.Nodup ∧ (∀ m, m ∈ modes) ∧
    modes.length = Config.privilegeModes) ∧
  Config.privilegeModes = 1 ∧
  (∀ (i : Instr) (s : State), ∃ t, exec i s = .next t) ∧
  ∀ s t : State, step s = .next t → t.privilegeMode = s.privilegeMode
end

