-- ==== Sys2Proof/Laws/State.lean ====
section
/-! SUPPORT. One lemma per field per update of `State` and `Status`, each true by `rfl`. -/

namespace Sys2Proof.Machine

@[simp] theorem Status.set_negative_n (p : Status) (b : Bool) : (p.set .negative b).n = b := rfl
@[simp] theorem Status.set_negative_v (p : Status) (b : Bool) : (p.set .negative b).v = p.v := rfl
@[simp] theorem Status.set_negative_d (p : Status) (b : Bool) : (p.set .negative b).d = p.d := rfl
@[simp] theorem Status.set_negative_i (p : Status) (b : Bool) : (p.set .negative b).i = p.i := rfl
@[simp] theorem Status.set_negative_z (p : Status) (b : Bool) : (p.set .negative b).z = p.z := rfl
@[simp] theorem Status.set_negative_c (p : Status) (b : Bool) : (p.set .negative b).c = p.c := rfl
@[simp] theorem Status.get_negative (p : Status) : p.get .negative = p.n := rfl
@[simp] theorem Status.set_overflow_n (p : Status) (b : Bool) : (p.set .overflow b).n = p.n := rfl
@[simp] theorem Status.set_overflow_v (p : Status) (b : Bool) : (p.set .overflow b).v = b := rfl
@[simp] theorem Status.set_overflow_d (p : Status) (b : Bool) : (p.set .overflow b).d = p.d := rfl
@[simp] theorem Status.set_overflow_i (p : Status) (b : Bool) : (p.set .overflow b).i = p.i := rfl
@[simp] theorem Status.set_overflow_z (p : Status) (b : Bool) : (p.set .overflow b).z = p.z := rfl
@[simp] theorem Status.set_overflow_c (p : Status) (b : Bool) : (p.set .overflow b).c = p.c := rfl
@[simp] theorem Status.get_overflow (p : Status) : p.get .overflow = p.v := rfl
@[simp] theorem Status.set_decimal_n (p : Status) (b : Bool) : (p.set .decimal b).n = p.n := rfl
@[simp] theorem Status.set_decimal_v (p : Status) (b : Bool) : (p.set .decimal b).v = p.v := rfl
@[simp] theorem Status.set_decimal_d (p : Status) (b : Bool) : (p.set .decimal b).d = b := rfl
@[simp] theorem Status.set_decimal_i (p : Status) (b : Bool) : (p.set .decimal b).i = p.i := rfl
@[simp] theorem Status.set_decimal_z (p : Status) (b : Bool) : (p.set .decimal b).z = p.z := rfl
@[simp] theorem Status.set_decimal_c (p : Status) (b : Bool) : (p.set .decimal b).c = p.c := rfl
@[simp] theorem Status.get_decimal (p : Status) : p.get .decimal = p.d := rfl
@[simp] theorem Status.set_interruptDisable_n (p : Status) (b : Bool) : (p.set .interruptDisable b).n = p.n := rfl
@[simp] theorem Status.set_interruptDisable_v (p : Status) (b : Bool) : (p.set .interruptDisable b).v = p.v := rfl
@[simp] theorem Status.set_interruptDisable_d (p : Status) (b : Bool) : (p.set .interruptDisable b).d = p.d := rfl
@[simp] theorem Status.set_interruptDisable_i (p : Status) (b : Bool) : (p.set .interruptDisable b).i = b := rfl
@[simp] theorem Status.set_interruptDisable_z (p : Status) (b : Bool) : (p.set .interruptDisable b).z = p.z := rfl
@[simp] theorem Status.set_interruptDisable_c (p : Status) (b : Bool) : (p.set .interruptDisable b).c = p.c := rfl
@[simp] theorem Status.get_interruptDisable (p : Status) : p.get .interruptDisable = p.i := rfl
@[simp] theorem Status.set_zero_n (p : Status) (b : Bool) : (p.set .zero b).n = p.n := rfl
@[simp] theorem Status.set_zero_v (p : Status) (b : Bool) : (p.set .zero b).v = p.v := rfl
@[simp] theorem Status.set_zero_d (p : Status) (b : Bool) : (p.set .zero b).d = p.d := rfl
@[simp] theorem Status.set_zero_i (p : Status) (b : Bool) : (p.set .zero b).i = p.i := rfl
@[simp] theorem Status.set_zero_z (p : Status) (b : Bool) : (p.set .zero b).z = b := rfl
@[simp] theorem Status.set_zero_c (p : Status) (b : Bool) : (p.set .zero b).c = p.c := rfl
@[simp] theorem Status.get_zero (p : Status) : p.get .zero = p.z := rfl
@[simp] theorem Status.set_carry_n (p : Status) (b : Bool) : (p.set .carry b).n = p.n := rfl
@[simp] theorem Status.set_carry_v (p : Status) (b : Bool) : (p.set .carry b).v = p.v := rfl
@[simp] theorem Status.set_carry_d (p : Status) (b : Bool) : (p.set .carry b).d = p.d := rfl
@[simp] theorem Status.set_carry_i (p : Status) (b : Bool) : (p.set .carry b).i = p.i := rfl
@[simp] theorem Status.set_carry_z (p : Status) (b : Bool) : (p.set .carry b).z = p.z := rfl
@[simp] theorem Status.set_carry_c (p : Status) (b : Bool) : (p.set .carry b).c = b := rfl
@[simp] theorem Status.get_carry (p : Status) : p.get .carry = p.c := rfl

@[simp] theorem State.setReg_a_a (s : State) (v : Byte) : (s.setReg .a v).a = v := rfl
@[simp] theorem State.setReg_a_x (s : State) (v : Byte) : (s.setReg .a v).x = s.x := rfl
@[simp] theorem State.setReg_a_y (s : State) (v : Byte) : (s.setReg .a v).y = s.y := rfl
@[simp] theorem State.setReg_a_sp (s : State) (v : Byte) : (s.setReg .a v).sp = s.sp := rfl
@[simp] theorem State.setReg_a_pc (s : State) (v : Byte) : (s.setReg .a v).pc = s.pc := rfl
@[simp] theorem State.setReg_a_p (s : State) (v : Byte) : (s.setReg .a v).p = s.p := rfl
@[simp] theorem State.setReg_a_mem (s : State) (v : Byte) : (s.setReg .a v).mem = s.mem := rfl
@[simp] theorem State.setReg_a_rs (s : State) (v : Byte) : (s.setReg .a v).rs = s.rs := rfl
@[simp] theorem State.setReg_a_fr (s : State) (v : Byte) : (s.setReg .a v).fr = s.fr := rfl

@[simp] theorem State.reg_a (s : State) : s.reg .a = s.a := rfl

@[simp] theorem State.setReg_x_a (s : State) (v : Byte) : (s.setReg .x v).a = s.a := rfl
@[simp] theorem State.setReg_x_x (s : State) (v : Byte) : (s.setReg .x v).x = v := rfl
@[simp] theorem State.setReg_x_y (s : State) (v : Byte) : (s.setReg .x v).y = s.y := rfl
@[simp] theorem State.setReg_x_sp (s : State) (v : Byte) : (s.setReg .x v).sp = s.sp := rfl
@[simp] theorem State.setReg_x_pc (s : State) (v : Byte) : (s.setReg .x v).pc = s.pc := rfl
@[simp] theorem State.setReg_x_p (s : State) (v : Byte) : (s.setReg .x v).p = s.p := rfl
@[simp] theorem State.setReg_x_mem (s : State) (v : Byte) : (s.setReg .x v).mem = s.mem := rfl
@[simp] theorem State.setReg_x_rs (s : State) (v : Byte) : (s.setReg .x v).rs = s.rs := rfl
@[simp] theorem State.setReg_x_fr (s : State) (v : Byte) : (s.setReg .x v).fr = s.fr := rfl

@[simp] theorem State.reg_x (s : State) : s.reg .x = s.x := rfl

@[simp] theorem State.setReg_y_a (s : State) (v : Byte) : (s.setReg .y v).a = s.a := rfl
@[simp] theorem State.setReg_y_x (s : State) (v : Byte) : (s.setReg .y v).x = s.x := rfl
@[simp] theorem State.setReg_y_y (s : State) (v : Byte) : (s.setReg .y v).y = v := rfl
@[simp] theorem State.setReg_y_sp (s : State) (v : Byte) : (s.setReg .y v).sp = s.sp := rfl
@[simp] theorem State.setReg_y_pc (s : State) (v : Byte) : (s.setReg .y v).pc = s.pc := rfl
@[simp] theorem State.setReg_y_p (s : State) (v : Byte) : (s.setReg .y v).p = s.p := rfl
@[simp] theorem State.setReg_y_mem (s : State) (v : Byte) : (s.setReg .y v).mem = s.mem := rfl
@[simp] theorem State.setReg_y_rs (s : State) (v : Byte) : (s.setReg .y v).rs = s.rs := rfl
@[simp] theorem State.setReg_y_fr (s : State) (v : Byte) : (s.setReg .y v).fr = s.fr := rfl

@[simp] theorem State.reg_y (s : State) : s.reg .y = s.y := rfl

@[simp] theorem State.setPc_a (s : State) (w : Word) : (s.setPc w).a = s.a := rfl
@[simp] theorem State.setPc_x (s : State) (w : Word) : (s.setPc w).x = s.x := rfl
@[simp] theorem State.setPc_y (s : State) (w : Word) : (s.setPc w).y = s.y := rfl
@[simp] theorem State.setPc_sp (s : State) (w : Word) : (s.setPc w).sp = s.sp := rfl
@[simp] theorem State.setPc_pc (s : State) (w : Word) : (s.setPc w).pc = w := rfl
@[simp] theorem State.setPc_p (s : State) (w : Word) : (s.setPc w).p = s.p := rfl
@[simp] theorem State.setPc_mem (s : State) (w : Word) : (s.setPc w).mem = s.mem := rfl
@[simp] theorem State.setPc_rs (s : State) (w : Word) : (s.setPc w).rs = s.rs := rfl
@[simp] theorem State.setPc_fr (s : State) (w : Word) : (s.setPc w).fr = s.fr := rfl

@[simp] theorem State.setSp_a (s : State) (v : Byte) : (s.setSp v).a = s.a := rfl
@[simp] theorem State.setSp_x (s : State) (v : Byte) : (s.setSp v).x = s.x := rfl
@[simp] theorem State.setSp_y (s : State) (v : Byte) : (s.setSp v).y = s.y := rfl
@[simp] theorem State.setSp_sp (s : State) (v : Byte) : (s.setSp v).sp = v := rfl
@[simp] theorem State.setSp_pc (s : State) (v : Byte) : (s.setSp v).pc = s.pc := rfl
@[simp] theorem State.setSp_p (s : State) (v : Byte) : (s.setSp v).p = s.p := rfl
@[simp] theorem State.setSp_mem (s : State) (v : Byte) : (s.setSp v).mem = s.mem := rfl
@[simp] theorem State.setSp_rs (s : State) (v : Byte) : (s.setSp v).rs = s.rs := rfl
@[simp] theorem State.setSp_fr (s : State) (v : Byte) : (s.setSp v).fr = s.fr := rfl

@[simp] theorem State.store_a (s : State) (addr : Word) (v : Byte) : (s.store addr v).a = s.a := rfl
@[simp] theorem State.store_x (s : State) (addr : Word) (v : Byte) : (s.store addr v).x = s.x := rfl
@[simp] theorem State.store_y (s : State) (addr : Word) (v : Byte) : (s.store addr v).y = s.y := rfl
@[simp] theorem State.store_sp (s : State) (addr : Word) (v : Byte) : (s.store addr v).sp = s.sp := rfl
@[simp] theorem State.store_pc (s : State) (addr : Word) (v : Byte) : (s.store addr v).pc = s.pc := rfl
@[simp] theorem State.store_p (s : State) (addr : Word) (v : Byte) : (s.store addr v).p = s.p := rfl
@[simp] theorem State.store_mem (s : State) (addr : Word) (v : Byte) : (s.store addr v).mem = s.mem.write addr v := rfl
@[simp] theorem State.store_rs (s : State) (addr : Word) (v : Byte) : (s.store addr v).rs = s.rs := rfl
@[simp] theorem State.store_fr (s : State) (addr : Word) (v : Byte) : (s.store addr v).fr = s.fr := rfl

@[simp] theorem State.storeU16_a (s : State) (addr w : Word) : (s.storeU16 addr w).a = s.a := rfl
@[simp] theorem State.storeU16_x (s : State) (addr w : Word) : (s.storeU16 addr w).x = s.x := rfl
@[simp] theorem State.storeU16_y (s : State) (addr w : Word) : (s.storeU16 addr w).y = s.y := rfl
@[simp] theorem State.storeU16_sp (s : State) (addr w : Word) : (s.storeU16 addr w).sp = s.sp := rfl
@[simp] theorem State.storeU16_pc (s : State) (addr w : Word) : (s.storeU16 addr w).pc = s.pc := rfl
@[simp] theorem State.storeU16_p (s : State) (addr w : Word) : (s.storeU16 addr w).p = s.p := rfl
@[simp] theorem State.storeU16_mem (s : State) (addr w : Word) : (s.storeU16 addr w).mem = s.mem.writeU16 addr w := rfl
@[simp] theorem State.storeU16_rs (s : State) (addr w : Word) : (s.storeU16 addr w).rs = s.rs := rfl
@[simp] theorem State.storeU16_fr (s : State) (addr w : Word) : (s.storeU16 addr w).fr = s.fr := rfl

@[simp] theorem State.setFlag_a (s : State) (f : Flag) (b : Bool) : (s.setFlag f b).a = s.a := rfl
@[simp] theorem State.setFlag_x (s : State) (f : Flag) (b : Bool) : (s.setFlag f b).x = s.x := rfl
@[simp] theorem State.setFlag_y (s : State) (f : Flag) (b : Bool) : (s.setFlag f b).y = s.y := rfl
@[simp] theorem State.setFlag_sp (s : State) (f : Flag) (b : Bool) : (s.setFlag f b).sp = s.sp := rfl
@[simp] theorem State.setFlag_pc (s : State) (f : Flag) (b : Bool) : (s.setFlag f b).pc = s.pc := rfl
@[simp] theorem State.setFlag_p (s : State) (f : Flag) (b : Bool) : (s.setFlag f b).p = s.p.set f b := rfl
@[simp] theorem State.setFlag_mem (s : State) (f : Flag) (b : Bool) : (s.setFlag f b).mem = s.mem := rfl
@[simp] theorem State.setFlag_rs (s : State) (f : Flag) (b : Bool) : (s.setFlag f b).rs = s.rs := rfl
@[simp] theorem State.setFlag_fr (s : State) (f : Flag) (b : Bool) : (s.setFlag f b).fr = s.fr := rfl

@[simp] theorem State.setZN_a (s : State) (r : Byte) : (s.setZN r).a = s.a := rfl
@[simp] theorem State.setZN_x (s : State) (r : Byte) : (s.setZN r).x = s.x := rfl
@[simp] theorem State.setZN_y (s : State) (r : Byte) : (s.setZN r).y = s.y := rfl
@[simp] theorem State.setZN_sp (s : State) (r : Byte) : (s.setZN r).sp = s.sp := rfl
@[simp] theorem State.setZN_pc (s : State) (r : Byte) : (s.setZN r).pc = s.pc := rfl
@[simp] theorem State.setZN_p (s : State) (r : Byte) : (s.setZN r).p = (s.p.set .zero (isZero r)).set .negative (bit7 r) := rfl
@[simp] theorem State.setZN_mem (s : State) (r : Byte) : (s.setZN r).mem = s.mem := rfl
@[simp] theorem State.setZN_rs (s : State) (r : Byte) : (s.setZN r).rs = s.rs := rfl
@[simp] theorem State.setZN_fr (s : State) (r : Byte) : (s.setZN r).fr = s.fr := rfl

@[simp] theorem State.halt_a (s : State) : (s.halt).a = s.a := rfl
@[simp] theorem State.halt_x (s : State) : (s.halt).x = s.x := rfl
@[simp] theorem State.halt_y (s : State) : (s.halt).y = s.y := rfl
@[simp] theorem State.halt_sp (s : State) : (s.halt).sp = s.sp := rfl
@[simp] theorem State.halt_pc (s : State) : (s.halt).pc = s.pc := rfl
@[simp] theorem State.halt_p (s : State) : (s.halt).p = s.p := rfl
@[simp] theorem State.halt_mem (s : State) : (s.halt).mem = s.mem := rfl
@[simp] theorem State.halt_rs (s : State) : (s.halt).rs = .halted := rfl
@[simp] theorem State.halt_fr (s : State) : (s.halt).fr = s.fr := rfl

@[simp] theorem State.enterFault_a (s : State) (code : Byte) (addr : Word) : (s.enterFault code addr).a = s.a := rfl
@[simp] theorem State.enterFault_x (s : State) (code : Byte) (addr : Word) : (s.enterFault code addr).x = s.x := rfl
@[simp] theorem State.enterFault_y (s : State) (code : Byte) (addr : Word) : (s.enterFault code addr).y = s.y := rfl
@[simp] theorem State.enterFault_sp (s : State) (code : Byte) (addr : Word) : (s.enterFault code addr).sp = s.sp := rfl
@[simp] theorem State.enterFault_pc (s : State) (code : Byte) (addr : Word) : (s.enterFault code addr).pc = s.pc := rfl
@[simp] theorem State.enterFault_p (s : State) (code : Byte) (addr : Word) : (s.enterFault code addr).p = s.p := rfl
@[simp] theorem State.enterFault_mem (s : State) (code : Byte) (addr : Word) : (s.enterFault code addr).mem = s.mem := rfl
@[simp] theorem State.enterFault_rs (s : State) (code : Byte) (addr : Word) : (s.enterFault code addr).rs = .faulted := rfl
@[simp] theorem State.enterFault_fr (s : State) (code : Byte) (addr : Word) : (s.enterFault code addr).fr = some (.invalidInstructionCode code addr) := rfl

@[simp] theorem State.applyReset_a (s : State) : (s.applyReset).a = 0x00#8 := rfl
@[simp] theorem State.applyReset_x (s : State) : (s.applyReset).x = 0x00#8 := rfl
@[simp] theorem State.applyReset_y (s : State) : (s.applyReset).y = 0x00#8 := rfl
@[simp] theorem State.applyReset_sp (s : State) : (s.applyReset).sp = 0xFF#8 := rfl
@[simp] theorem State.applyReset_pc (s : State) : (s.applyReset).pc = s.mem.readU16 0xFFFC#16 := rfl
@[simp] theorem State.applyReset_p (s : State) : (s.applyReset).p = Status.clear := rfl
@[simp] theorem State.applyReset_mem (s : State) : (s.applyReset).mem = s.mem := rfl
@[simp] theorem State.applyReset_rs (s : State) : (s.applyReset).rs = .ready := rfl
@[simp] theorem State.applyReset_fr (s : State) : (s.applyReset).fr = none := rfl

@[simp] theorem State.applyResetTest_a (s : State) : (s.applyResetTest).a = 0x00#8 := rfl
@[simp] theorem State.applyResetTest_x (s : State) : (s.applyResetTest).x = 0x00#8 := rfl
@[simp] theorem State.applyResetTest_y (s : State) : (s.applyResetTest).y = 0x00#8 := rfl
@[simp] theorem State.applyResetTest_sp (s : State) : (s.applyResetTest).sp = 0xFF#8 := rfl
@[simp] theorem State.applyResetTest_pc (s : State) : (s.applyResetTest).pc = 0x8000#16 := rfl
@[simp] theorem State.applyResetTest_p (s : State) : (s.applyResetTest).p = Status.clear := rfl
@[simp] theorem State.applyResetTest_mem (s : State) : (s.applyResetTest).mem = s.mem := rfl
@[simp] theorem State.applyResetTest_rs (s : State) : (s.applyResetTest).rs = .ready := rfl
@[simp] theorem State.applyResetTest_fr (s : State) : (s.applyResetTest).fr = none := rfl

@[simp] theorem State.setReg_sp (s : State) (r : Reg) (v : Byte) : (s.setReg r v).sp = s.sp := by cases r <;> rfl
@[simp] theorem State.setReg_pc (s : State) (r : Reg) (v : Byte) : (s.setReg r v).pc = s.pc := by cases r <;> rfl
@[simp] theorem State.setReg_p (s : State) (r : Reg) (v : Byte) : (s.setReg r v).p = s.p := by cases r <;> rfl
@[simp] theorem State.setReg_mem (s : State) (r : Reg) (v : Byte) : (s.setReg r v).mem = s.mem := by cases r <;> rfl
@[simp] theorem State.setReg_rs (s : State) (r : Reg) (v : Byte) : (s.setReg r v).rs = s.rs := by cases r <;> rfl
@[simp] theorem State.setReg_fr (s : State) (r : Reg) (v : Byte) : (s.setReg r v).fr = s.fr := by cases r <;> rfl

end Sys2Proof.Machine
end

