-- ==== Sys2Proof/Laws/Bits.lean ====
section
/-! SUPPORT. The bit-field helpers in plain arithmetic. -/

namespace Sys2Proof

theorem zext16_toNat (b : Byte) : (zext16 b).toNat = b.toNat := by
  have := b.isLt
  simp only [zext16, BitVec.toNat_setWidth]
  omega

theorem sext16_toInt (b : Byte) : (sext16 b).toInt = b.toInt := by
  simp [sext16, BitVec.toInt_signExtend_of_le]

theorem joinBytes_toNat (hi lo : Byte) : (joinBytes hi lo).toNat = lo.toNat + 256 * hi.toNat := by
  have := lo.isLt
  simp only [joinBytes, BitVec.toNat_append]
  rw [← Nat.shiftLeft_add_eq_or_of_lt this, Nat.shiftLeft_eq]
  omega

theorem lowByte_toNat (w : Word) : (lowByte w).toNat = w.toNat % 256 := by
  simp [lowByte, BitVec.toNat_setWidth]

theorem highByte_toNat (w : Word) : (highByte w).toNat = w.toNat / 256 := by
  have := w.isLt
  simp only [highByte, BitVec.extractLsb'_toNat, Nat.shiftRight_eq_div_pow]
  omega

@[simp] theorem joinBytes_high_low (w : Word) : joinBytes (highByte w) (lowByte w) = w := by
  apply BitVec.eq_of_toNat_eq
  rw [joinBytes_toNat, lowByte_toNat, highByte_toNat]
  omega

@[simp] theorem lowByte_joinBytes (hi lo : Byte) : lowByte (joinBytes hi lo) = lo := by
  apply BitVec.eq_of_toNat_eq
  have := lo.isLt
  rw [lowByte_toNat, joinBytes_toNat]
  omega

@[simp] theorem highByte_joinBytes (hi lo : Byte) : highByte (joinBytes hi lo) = hi := by
  apply BitVec.eq_of_toNat_eq
  have := lo.isLt
  rw [highByte_toNat, joinBytes_toNat]
  omega

/-- The entry found for an opcode stands in the opcode map under that opcode. -/
theorem formatOf_mem {b : Byte} {f : Format} (h : formatOf b = some f) : (b, f) ∈ opcodeMap := by
  simp only [formatOf, Option.map_eq_some_iff] at h
  obtain ⟨⟨b', f'⟩, hfind, rfl⟩ := h
  have hkey : b' = b := by simpa using List.find?_some hfind
  subst hkey
  exact List.mem_of_find?_eq_some hfind

namespace Machine

theorem isZero_eq (r : Byte) : isZero r = decide (r = 0x00#8) := by
  simp [isZero, BEq.beq]

theorem bit7_eq (r : Byte) : bit7 r = decide (128 ≤ r.toNat) := by
  have := r.isLt
  simp only [bit7, BitVec.getLsbD, Nat.testBit_eq_decide_div_mod_eq, decide_eq_decide]
  omega

theorem bit6_eq (r : Byte) : bit6 r = decide (r.toNat / 64 % 2 = 1) := by
  simp only [bit6, BitVec.getLsbD, Nat.testBit_eq_decide_div_mod_eq, Nat.reducePow]

theorem adcResult_toNat (acc m : Byte) (c : Bool) :
    (adcResult acc m c).toNat = (acc.toNat + m.toNat + c.toNat) % 256 := by
  simp [adcResult, adcSum]

theorem aslResult_toNat (b : Byte) : (aslResult b).toNat = b.toNat * 2 % 256 := by
  simp [aslResult, Nat.shiftLeft_eq]

theorem compareDifference_toNat (r m : Byte) :
    (compareDifference r m).toNat = (r.toNat + (256 - m.toNat)) % 256 := by
  simp only [compareDifference, BitVec.toNat_sub]
  omega

end Machine

end Sys2Proof
end

