-- ==== Sys2Proof/Laws/Config.lean ====
section
/-! SUPPORT. The parameters of 00_scope.md R4 against the definitions that hold their values. -/

namespace Sys2Proof.Laws

/-- `NUM_OPCODES`: the opcode map has that many rows. -/
theorem opcodeMap_length : opcodeMap.length = Config.numOpcodes := rfl

/-- No opcode byte stands in two rows. -/
theorem opcodeMap_nodup : (opcodeMap.map Prod.fst).Nodup := by decide

/-- Valid and invalid opcode bytes together are all 256. -/
theorem opcode_counts_sum : Config.numOpcodes + Config.numInvalidOpcodes = 2 ^ 8 := rfl

theorem privilegeMode_eq (m m' : Config.PrivilegeMode) : m = m' := by
  cases m; cases m'; rfl

/-- The privilege mode is no part of the state: it is the same in every state. -/
@[simp] theorem State.privilegeMode_eq (s : Machine.State) : s.privilegeMode = .only := rfl

/-- `NUM_GPR`: three registers. -/
theorem registers_complete (r : Reg) : r ∈ [Reg.a, .x, .y] := by cases r <;> decide

/-- `P_RESET`: the packed status after reset. -/
theorem clear_packed : Machine.Status.clear.packed = 0x00#8 := rfl

end Sys2Proof.Laws
end

