-- ==== Sys2Proof/Laws/Memory.lean ====
section
/-! SUPPORT. Memory: every operation keeps the canonical form, and reading after writing. -/

namespace Sys2Proof.Machine

theorem Memory.wfAbove_cons {low k : Nat} {v : Byte} {rest : Memory} :
    Memory.wfAbove low ((k, v) :: rest) = true ↔
      low ≤ k ∧ k < 65536 ∧ v ≠ unlistedByte ∧ Memory.wfAbove (k + 1) rest = true := by
  simp only [Memory.wfAbove, Bool.and_eq_true, decide_eq_true_eq, bne_iff_ne, ne_eq, and_assoc]
  exact Iff.rfl

/-- The bound may be lowered. -/
theorem Memory.wfAbove_mono {low low' : Nat} {m : Memory} (hle : low' ≤ low)
    (h : Memory.wfAbove low m = true) : Memory.wfAbove low' m = true := by
  cases m with
  | nil => rfl
  | cons e rest =>
    obtain ⟨k, v⟩ := e
    rw [Memory.wfAbove_cons] at h ⊢
    exact ⟨by omega, h.2⟩

/-- An address below the bound is not listed. -/
theorem Memory.get_below {low j : Nat} {m : Memory} (h : Memory.wfAbove low m = true) (hj : j < low) :
    m.get j = unlistedByte := by
  induction m generalizing low with
  | nil => rfl
  | cons e rest ih =>
    obtain ⟨k, v⟩ := e
    rw [Memory.wfAbove_cons] at h
    have hne : j ≠ k := by omega
    simp only [Memory.get, if_neg hne]
    exact ih h.2.2.2 (by omega)

theorem Memory.put_wfAbove {low k : Nat} {v : Byte} {m : Memory} (hlow : low ≤ k) (hk : k < 65536)
    (h : Memory.wfAbove low m = true) : Memory.wfAbove low (m.put k v) = true := by
  induction m generalizing low with
  | nil =>
    by_cases hv : v = unlistedByte
    · simp [Memory.put, hv, Memory.wfAbove]
    · simp only [Memory.put, if_neg hv, Memory.wfAbove_cons]
      exact ⟨hlow, hk, hv, rfl⟩
  | cons e rest ih =>
    obtain ⟨k', v'⟩ := e
    have h0 := h
    rw [Memory.wfAbove_cons] at h
    obtain ⟨h1, h2, h3, h4⟩ := h
    simp only [Memory.put]
    split
    · split
      · exact h0
      · rw [Memory.wfAbove_cons, Memory.wfAbove_cons]
        exact ⟨hlow, hk, ‹_›, by omega, h2, h3, h4⟩
    · split
      · split
        · exact Memory.wfAbove_mono (by omega) h4
        · rw [Memory.wfAbove_cons]
          exact ⟨hlow, hk, ‹_›, by subst k; exact h4⟩
      · rw [Memory.wfAbove_cons]
        exact ⟨h1, h2, h3, ih (by omega) h4⟩

theorem Memory.get_put {low k j : Nat} {v : Byte} {m : Memory} (h : Memory.wfAbove low m = true) :
    (m.put k v).get j = if j = k then v else m.get j := by
  induction m generalizing low with
  | nil =>
    by_cases hv : v = unlistedByte <;> by_cases hj : j = k <;> simp [Memory.put, Memory.get, hv, hj]
  | cons e rest ih =>
    obtain ⟨k', v'⟩ := e
    rw [Memory.wfAbove_cons] at h
    obtain ⟨-, -, -, h4⟩ := h
    simp only [Memory.put]
    split
    · have hbelow : Memory.get rest k = unlistedByte := Memory.get_below h4 (by omega)
      split
      · by_cases hj : j = k
        · subst hj
          simp only [Memory.get, if_true, if_neg (show ¬ j = k' by omega), *]
        · simp [Memory.get, hj]
      · by_cases hj : j = k <;> simp [Memory.get, hj]
    · split
      · have hbelow : Memory.get rest k' = unlistedByte := Memory.get_below h4 (by omega)
        subst k
        split
        · by_cases hj : j = k'
          · subst hj; simp [*]
          · simp [Memory.get, hj]
        · by_cases hj : j = k' <;> simp [Memory.get, hj]
      · by_cases hj : j = k'
        · subst hj
          simp [Memory.get, show ¬ j = k by omega]
        · simp only [Memory.get, if_neg hj]
          exact ih h4

/-! ## The named operations keep the canonical form -/

theorem Memory.write_wf {m : Memory} (h : m.wf = true) (addr : Word) (v : Byte) :
    (m.write addr v).wf = true :=
  Memory.put_wfAbove (Nat.zero_le _) addr.isLt h

theorem Memory.writeU16_wf {m : Memory} (h : m.wf = true) (addr w : Word) :
    (m.writeU16 addr w).wf = true :=
  Memory.write_wf (Memory.write_wf h _ _) _ _

theorem Memory.copy_wf {m : Memory} (h : m.wf = true) (addr : Word) (bytes : List Byte) :
    (m.copy addr bytes).wf = true := by
  induction bytes generalizing m addr with
  | nil => exact h
  | cons b rest ih => exact ih (Memory.write_wf h _ _) _

theorem reset_mem_wf : State.reset.mem.wf = true := rfl

theorem create_mem_wf : create.mem.wf = true := rfl

/-! ## Reading after writing -/

theorem Memory.read_write {m : Memory} (h : m.wf = true) (addr b : Word) (v : Byte) :
    (m.write addr v).read b = if b = addr then v else m.read b := by
  simp only [Memory.read, Memory.write, Memory.get_put h, BitVec.toNat_inj]

@[simp] theorem Memory.read_nil (addr : Word) : Memory.read [] addr = 0x00#8 := rfl

theorem Memory.bytesFrom_length (m : Memory) (addr : Word) (n : Nat) :
    (m.bytesFrom addr n).length = n := by
  induction n generalizing addr with
  | zero => rfl
  | succ n ih => simp [Memory.bytesFrom, ih]

end Sys2Proof.Machine
end

