-- ==== Sys2Proof/Laws/Meanings.lean ====
section
/-! SUPPORT. For each shared operation, the whole of what it does, as one record update: the provers cite
these instead of unfolding the operation. -/

namespace Sys2Proof.Machine

theorem clearFlag_eq (f : Flag) (s : State) : clearFlag f s = { s with p := s.p.set f false } := rfl

theorem load_a_eq (v : Byte) (s : State) :
    load .a v s = { s with a := v, p := { s.p with z := isZero v, n := bit7 v } } := rfl

theorem load_x_eq (v : Byte) (s : State) :
    load .x v s = { s with x := v, p := { s.p with z := isZero v, n := bit7 v } } := rfl

theorem load_y_eq (v : Byte) (s : State) :
    load .y v s = { s with y := v, p := { s.p with z := isZero v, n := bit7 v } } := rfl

theorem transfer_eq (origin dest : Reg) (s : State) : transfer origin dest s = load dest (s.reg origin) s := rfl

theorem increment_keepsOverflow (dest : Reg) (s : State) :
    increment false dest s = load dest (s.reg dest + 1#8) s := rfl

theorem increment_setsOverflow (dest : Reg) (s : State) :
    increment true dest s =
      (load dest (s.reg dest + 1#8) s).setFlag .overflow (s.reg dest == 0xFF#8) := rfl

theorem addWithCarry_eq (m : Byte) (s : State) :
    addWithCarry m s =
      { s with
        a := adcResult s.a m s.p.c
        p := { s.p with
          c := adcCarry s.a m s.p.c
          v := adcOverflow s.a m s.p.c
          z := isZero (adcResult s.a m s.p.c)
          n := bit7 (adcResult s.a m s.p.c) } } := rfl

theorem andAccumulator_eq (m : Byte) (s : State) :
    andAccumulator m s =
      { s with a := s.a &&& m, p := { s.p with z := isZero (s.a &&& m), n := bit7 (s.a &&& m) } } := rfl

theorem shiftAccumulator_eq (s : State) :
    shiftAccumulator s =
      { s with
        a := aslResult s.a
        p := { s.p with c := bit7 s.a, z := isZero (aslResult s.a), n := bit7 (aslResult s.a) } } := rfl

theorem shiftMemory_eq (ea : Word) (s : State) :
    shiftMemory ea s =
      { s with
        mem := s.mem.write ea (aslResult (s.mem.read ea))
        p := { s.p with
          c := bit7 (s.mem.read ea)
          z := isZero (aslResult (s.mem.read ea))
          n := bit7 (aslResult (s.mem.read ea)) } } := rfl

theorem bitTest_eq (m : Byte) (s : State) :
    bitTest m s =
      { s with p := { s.p with n := bit7 m, v := bit6 m, z := isZero (s.a &&& m) } } := rfl

theorem branch_taken {f : Flag} {b : Bool} {s : State} (off : Byte) (h : s.p.get f = b) :
    branch f b off s = { s with pc := relativeTarget off s } := if_pos h

theorem branch_notTaken {f : Flag} {b : Bool} {s : State} (off : Byte) (h : s.p.get f ≠ b) :
    branch f b off s = s := if_neg h

theorem compareWith_eq (r : Reg) (m : Byte) (s : State) :
    compareWith r m s =
      { s with
        p := { s.p with
          c := compareCarry (s.reg r) m
          z := isZero (compareDifference (s.reg r) m)
          n := bit7 (compareDifference (s.reg r) m) } } := rfl

/-! ## Step -/

/-- A step that is not enabled leaves the state as it is. -/
theorem step_notReady {s : State} (h : s.rs ≠ .ready) : step s = .next s := if_neg h

theorem step_decoded {s : State} {i : Instr} {w : Word} (h : s.rs = .ready)
    (hd : decodeAt s.mem s.pc = .ok (i, w)) : step s = exec i (s.setPc w) := by
  simp [step, h, hd]

theorem step_undecoded {s : State} {e : DecodeError} (h : s.rs = .ready)
    (hd : decodeAt s.mem s.pc = .error e) : step s = .next (s.enterFault (s.mem.read s.pc) s.pc) := by
  simp [step, h, hd]

/-- All that a step can do: stay, enter the fault, or execute the decoded instruction. -/
theorem step_cases {s : State} {out : Result} (h : step s = out) :
    (s.rs ≠ .ready ∧ out = .next s) ∨
    (s.rs = .ready ∧ (∃ e, decodeAt s.mem s.pc = .error e) ∧
      out = .next (s.enterFault (s.mem.read s.pc) s.pc)) ∨
    (s.rs = .ready ∧ ∃ i w, decodeAt s.mem s.pc = .ok (i, w) ∧ out = exec i (s.setPc w)) := by
  subst h
  by_cases hr : s.rs = .ready
  · cases hd : decodeAt s.mem s.pc with
    | error e => exact .inr (.inl ⟨hr, ⟨e, rfl⟩, step_undecoded hr hd⟩)
    | ok iw => exact .inr (.inr ⟨hr, iw.1, iw.2, rfl, step_decoded hr hd⟩)
  · exact .inl ⟨hr, step_notReady hr⟩

end Sys2Proof.Machine
end

