-- ==== Sys2Proof/Laws/PerInstr.lean ====
section
/-! SUPPORT. The two statements made for every instruction as a term: its encoding has the length of its
mode kind (30_encoding.md R54), and its variant is one of the table of 40_addressing_modes.md R85. -/

namespace Sys2Proof.Laws

/-- The encoding is as long as the mode kind says. -/
def EncodedLength.Statement (i : Instr) : Prop := (encode i).length = i.length

/-- The variant is one of the closed subsets. -/
def VariantWellFormed.Statement (i : Instr) : Prop := i.wellFormed = true

theorem EncodedLength.brk : EncodedLength.Statement .brk := rfl
theorem EncodedLength.clc : EncodedLength.Statement .clc := rfl
theorem EncodedLength.cld : EncodedLength.Statement .cld := rfl
theorem EncodedLength.cli : EncodedLength.Statement .cli := rfl
theorem EncodedLength.clv : EncodedLength.Statement .clv := rfl
theorem EncodedLength.ldaImmediate (imm : Byte) : EncodedLength.Statement (.ldaImmediate imm) := rfl
theorem EncodedLength.ldaZeroPage (a : Byte) : EncodedLength.Statement (.ldaZeroPage a) := rfl
theorem EncodedLength.ldaZeroPageX (a : Byte) : EncodedLength.Statement (.ldaZeroPageX a) := rfl
theorem EncodedLength.ldaAbsolute (a : Word) : EncodedLength.Statement (.ldaAbsolute a) := rfl
theorem EncodedLength.ldaAbsoluteX (a : Word) : EncodedLength.Statement (.ldaAbsoluteX a) := rfl
theorem EncodedLength.ldaAbsoluteY (a : Word) : EncodedLength.Statement (.ldaAbsoluteY a) := rfl
theorem EncodedLength.ldaIndirectX (a : Byte) : EncodedLength.Statement (.ldaIndirectX a) := rfl
theorem EncodedLength.ldaIndirectY (a : Byte) : EncodedLength.Statement (.ldaIndirectY a) := rfl
theorem EncodedLength.ldxImmediate (imm : Byte) : EncodedLength.Statement (.ldxImmediate imm) := rfl
theorem EncodedLength.ldxZeroPage (a : Byte) : EncodedLength.Statement (.ldxZeroPage a) := rfl
theorem EncodedLength.ldxZeroPageY (a : Byte) : EncodedLength.Statement (.ldxZeroPageY a) := rfl
theorem EncodedLength.ldxAbsolute (a : Word) : EncodedLength.Statement (.ldxAbsolute a) := rfl
theorem EncodedLength.ldxAbsoluteY (a : Word) : EncodedLength.Statement (.ldxAbsoluteY a) := rfl
theorem EncodedLength.ldyImmediate (imm : Byte) : EncodedLength.Statement (.ldyImmediate imm) := rfl
theorem EncodedLength.ldyZeroPage (a : Byte) : EncodedLength.Statement (.ldyZeroPage a) := rfl
theorem EncodedLength.ldyZeroPageX (a : Byte) : EncodedLength.Statement (.ldyZeroPageX a) := rfl
theorem EncodedLength.ldyAbsolute (a : Word) : EncodedLength.Statement (.ldyAbsolute a) := rfl
theorem EncodedLength.ldyAbsoluteX (a : Word) : EncodedLength.Statement (.ldyAbsoluteX a) := rfl
theorem EncodedLength.tax : EncodedLength.Statement .tax := rfl
theorem EncodedLength.inx : EncodedLength.Statement .inx := rfl
theorem EncodedLength.adcImmediate (imm : Byte) : EncodedLength.Statement (.adcImmediate imm) := rfl
theorem EncodedLength.adcZeroPage (a : Byte) : EncodedLength.Statement (.adcZeroPage a) := rfl
theorem EncodedLength.adcZeroPageX (a : Byte) : EncodedLength.Statement (.adcZeroPageX a) := rfl
theorem EncodedLength.adcAbsolute (a : Word) : EncodedLength.Statement (.adcAbsolute a) := rfl
theorem EncodedLength.adcAbsoluteX (a : Word) : EncodedLength.Statement (.adcAbsoluteX a) := rfl
theorem EncodedLength.adcAbsoluteY (a : Word) : EncodedLength.Statement (.adcAbsoluteY a) := rfl
theorem EncodedLength.adcIndirectX (a : Byte) : EncodedLength.Statement (.adcIndirectX a) := rfl
theorem EncodedLength.adcIndirectY (a : Byte) : EncodedLength.Statement (.adcIndirectY a) := rfl
theorem EncodedLength.andImmediate (imm : Byte) : EncodedLength.Statement (.andImmediate imm) := rfl
theorem EncodedLength.andZeroPage (a : Byte) : EncodedLength.Statement (.andZeroPage a) := rfl
theorem EncodedLength.andZeroPageX (a : Byte) : EncodedLength.Statement (.andZeroPageX a) := rfl
theorem EncodedLength.andAbsolute (a : Word) : EncodedLength.Statement (.andAbsolute a) := rfl
theorem EncodedLength.andAbsoluteX (a : Word) : EncodedLength.Statement (.andAbsoluteX a) := rfl
theorem EncodedLength.andAbsoluteY (a : Word) : EncodedLength.Statement (.andAbsoluteY a) := rfl
theorem EncodedLength.andIndirectX (a : Byte) : EncodedLength.Statement (.andIndirectX a) := rfl
theorem EncodedLength.andIndirectY (a : Byte) : EncodedLength.Statement (.andIndirectY a) := rfl
theorem EncodedLength.aslAccumulator : EncodedLength.Statement .aslAccumulator := rfl
theorem EncodedLength.aslZeroPage (a : Byte) : EncodedLength.Statement (.aslZeroPage a) := rfl
theorem EncodedLength.aslZeroPageX (a : Byte) : EncodedLength.Statement (.aslZeroPageX a) := rfl
theorem EncodedLength.aslAbsolute (a : Word) : EncodedLength.Statement (.aslAbsolute a) := rfl
theorem EncodedLength.aslAbsoluteX (a : Word) : EncodedLength.Statement (.aslAbsoluteX a) := rfl
theorem EncodedLength.bitZeroPage (a : Byte) : EncodedLength.Statement (.bitZeroPage a) := rfl
theorem EncodedLength.bitAbsolute (a : Word) : EncodedLength.Statement (.bitAbsolute a) := rfl
theorem EncodedLength.bcc (off : Byte) : EncodedLength.Statement (.bcc off) := rfl
theorem EncodedLength.bcs (off : Byte) : EncodedLength.Statement (.bcs off) := rfl
theorem EncodedLength.beq (off : Byte) : EncodedLength.Statement (.beq off) := rfl
theorem EncodedLength.bmi (off : Byte) : EncodedLength.Statement (.bmi off) := rfl
theorem EncodedLength.bne (off : Byte) : EncodedLength.Statement (.bne off) := rfl
theorem EncodedLength.bpl (off : Byte) : EncodedLength.Statement (.bpl off) := rfl
theorem EncodedLength.bvc (off : Byte) : EncodedLength.Statement (.bvc off) := rfl
theorem EncodedLength.bvs (off : Byte) : EncodedLength.Statement (.bvs off) := rfl
theorem EncodedLength.cmpImmediate (imm : Byte) : EncodedLength.Statement (.cmpImmediate imm) := rfl
theorem EncodedLength.cmpZeroPage (a : Byte) : EncodedLength.Statement (.cmpZeroPage a) := rfl
theorem EncodedLength.cmpZeroPageX (a : Byte) : EncodedLength.Statement (.cmpZeroPageX a) := rfl
theorem EncodedLength.cmpAbsolute (a : Word) : EncodedLength.Statement (.cmpAbsolute a) := rfl
theorem EncodedLength.cmpAbsoluteX (a : Word) : EncodedLength.Statement (.cmpAbsoluteX a) := rfl
theorem EncodedLength.cmpAbsoluteY (a : Word) : EncodedLength.Statement (.cmpAbsoluteY a) := rfl
theorem EncodedLength.cmpIndirectX (a : Byte) : EncodedLength.Statement (.cmpIndirectX a) := rfl
theorem EncodedLength.cmpIndirectY (a : Byte) : EncodedLength.Statement (.cmpIndirectY a) := rfl
theorem EncodedLength.cpxImmediate (imm : Byte) : EncodedLength.Statement (.cpxImmediate imm) := rfl
theorem EncodedLength.cpxZeroPage (a : Byte) : EncodedLength.Statement (.cpxZeroPage a) := rfl
theorem EncodedLength.cpxAbsolute (a : Word) : EncodedLength.Statement (.cpxAbsolute a) := rfl
theorem EncodedLength.cpyImmediate (imm : Byte) : EncodedLength.Statement (.cpyImmediate imm) := rfl
theorem EncodedLength.cpyZeroPage (a : Byte) : EncodedLength.Statement (.cpyZeroPage a) := rfl
theorem EncodedLength.cpyAbsolute (a : Word) : EncodedLength.Statement (.cpyAbsolute a) := rfl

theorem VariantWellFormed.brk : VariantWellFormed.Statement .brk := rfl
theorem VariantWellFormed.clc : VariantWellFormed.Statement .clc := rfl
theorem VariantWellFormed.cld : VariantWellFormed.Statement .cld := rfl
theorem VariantWellFormed.cli : VariantWellFormed.Statement .cli := rfl
theorem VariantWellFormed.clv : VariantWellFormed.Statement .clv := rfl
theorem VariantWellFormed.ldaImmediate (imm : Byte) : VariantWellFormed.Statement (.ldaImmediate imm) := rfl
theorem VariantWellFormed.ldaZeroPage (a : Byte) : VariantWellFormed.Statement (.ldaZeroPage a) := rfl
theorem VariantWellFormed.ldaZeroPageX (a : Byte) : VariantWellFormed.Statement (.ldaZeroPageX a) := rfl
theorem VariantWellFormed.ldaAbsolute (a : Word) : VariantWellFormed.Statement (.ldaAbsolute a) := rfl
theorem VariantWellFormed.ldaAbsoluteX (a : Word) : VariantWellFormed.Statement (.ldaAbsoluteX a) := rfl
theorem VariantWellFormed.ldaAbsoluteY (a : Word) : VariantWellFormed.Statement (.ldaAbsoluteY a) := rfl
theorem VariantWellFormed.ldaIndirectX (a : Byte) : VariantWellFormed.Statement (.ldaIndirectX a) := rfl
theorem VariantWellFormed.ldaIndirectY (a : Byte) : VariantWellFormed.Statement (.ldaIndirectY a) := rfl
theorem VariantWellFormed.ldxImmediate (imm : Byte) : VariantWellFormed.Statement (.ldxImmediate imm) := rfl
theorem VariantWellFormed.ldxZeroPage (a : Byte) : VariantWellFormed.Statement (.ldxZeroPage a) := rfl
theorem VariantWellFormed.ldxZeroPageY (a : Byte) : VariantWellFormed.Statement (.ldxZeroPageY a) := rfl
theorem VariantWellFormed.ldxAbsolute (a : Word) : VariantWellFormed.Statement (.ldxAbsolute a) := rfl
theorem VariantWellFormed.ldxAbsoluteY (a : Word) : VariantWellFormed.Statement (.ldxAbsoluteY a) := rfl
theorem VariantWellFormed.ldyImmediate (imm : Byte) : VariantWellFormed.Statement (.ldyImmediate imm) := rfl
theorem VariantWellFormed.ldyZeroPage (a : Byte) : VariantWellFormed.Statement (.ldyZeroPage a) := rfl
theorem VariantWellFormed.ldyZeroPageX (a : Byte) : VariantWellFormed.Statement (.ldyZeroPageX a) := rfl
theorem VariantWellFormed.ldyAbsolute (a : Word) : VariantWellFormed.Statement (.ldyAbsolute a) := rfl
theorem VariantWellFormed.ldyAbsoluteX (a : Word) : VariantWellFormed.Statement (.ldyAbsoluteX a) := rfl
theorem VariantWellFormed.tax : VariantWellFormed.Statement .tax := rfl
theorem VariantWellFormed.inx : VariantWellFormed.Statement .inx := rfl
theorem VariantWellFormed.adcImmediate (imm : Byte) : VariantWellFormed.Statement (.adcImmediate imm) := rfl
theorem VariantWellFormed.adcZeroPage (a : Byte) : VariantWellFormed.Statement (.adcZeroPage a) := rfl
theorem VariantWellFormed.adcZeroPageX (a : Byte) : VariantWellFormed.Statement (.adcZeroPageX a) := rfl
theorem VariantWellFormed.adcAbsolute (a : Word) : VariantWellFormed.Statement (.adcAbsolute a) := rfl
theorem VariantWellFormed.adcAbsoluteX (a : Word) : VariantWellFormed.Statement (.adcAbsoluteX a) := rfl
theorem VariantWellFormed.adcAbsoluteY (a : Word) : VariantWellFormed.Statement (.adcAbsoluteY a) := rfl
theorem VariantWellFormed.adcIndirectX (a : Byte) : VariantWellFormed.Statement (.adcIndirectX a) := rfl
theorem VariantWellFormed.adcIndirectY (a : Byte) : VariantWellFormed.Statement (.adcIndirectY a) := rfl
theorem VariantWellFormed.andImmediate (imm : Byte) : VariantWellFormed.Statement (.andImmediate imm) := rfl
theorem VariantWellFormed.andZeroPage (a : Byte) : VariantWellFormed.Statement (.andZeroPage a) := rfl
theorem VariantWellFormed.andZeroPageX (a : Byte) : VariantWellFormed.Statement (.andZeroPageX a) := rfl
theorem VariantWellFormed.andAbsolute (a : Word) : VariantWellFormed.Statement (.andAbsolute a) := rfl
theorem VariantWellFormed.andAbsoluteX (a : Word) : VariantWellFormed.Statement (.andAbsoluteX a) := rfl
theorem VariantWellFormed.andAbsoluteY (a : Word) : VariantWellFormed.Statement (.andAbsoluteY a) := rfl
theorem VariantWellFormed.andIndirectX (a : Byte) : VariantWellFormed.Statement (.andIndirectX a) := rfl
theorem VariantWellFormed.andIndirectY (a : Byte) : VariantWellFormed.Statement (.andIndirectY a) := rfl
theorem VariantWellFormed.aslAccumulator : VariantWellFormed.Statement .aslAccumulator := rfl
theorem VariantWellFormed.aslZeroPage (a : Byte) : VariantWellFormed.Statement (.aslZeroPage a) := rfl
theorem VariantWellFormed.aslZeroPageX (a : Byte) : VariantWellFormed.Statement (.aslZeroPageX a) := rfl
theorem VariantWellFormed.aslAbsolute (a : Word) : VariantWellFormed.Statement (.aslAbsolute a) := rfl
theorem VariantWellFormed.aslAbsoluteX (a : Word) : VariantWellFormed.Statement (.aslAbsoluteX a) := rfl
theorem VariantWellFormed.bitZeroPage (a : Byte) : VariantWellFormed.Statement (.bitZeroPage a) := rfl
theorem VariantWellFormed.bitAbsolute (a : Word) : VariantWellFormed.Statement (.bitAbsolute a) := rfl
theorem VariantWellFormed.bcc (off : Byte) : VariantWellFormed.Statement (.bcc off) := rfl
theorem VariantWellFormed.bcs (off : Byte) : VariantWellFormed.Statement (.bcs off) := rfl
theorem VariantWellFormed.beq (off : Byte) : VariantWellFormed.Statement (.beq off) := rfl
theorem VariantWellFormed.bmi (off : Byte) : VariantWellFormed.Statement (.bmi off) := rfl
theorem VariantWellFormed.bne (off : Byte) : VariantWellFormed.Statement (.bne off) := rfl
theorem VariantWellFormed.bpl (off : Byte) : VariantWellFormed.Statement (.bpl off) := rfl
theorem VariantWellFormed.bvc (off : Byte) : VariantWellFormed.Statement (.bvc off) := rfl
theorem VariantWellFormed.bvs (off : Byte) : VariantWellFormed.Statement (.bvs off) := rfl
theorem VariantWellFormed.cmpImmediate (imm : Byte) : VariantWellFormed.Statement (.cmpImmediate imm) := rfl
theorem VariantWellFormed.cmpZeroPage (a : Byte) : VariantWellFormed.Statement (.cmpZeroPage a) := rfl
theorem VariantWellFormed.cmpZeroPageX (a : Byte) : VariantWellFormed.Statement (.cmpZeroPageX a) := rfl
theorem VariantWellFormed.cmpAbsolute (a : Word) : VariantWellFormed.Statement (.cmpAbsolute a) := rfl
theorem VariantWellFormed.cmpAbsoluteX (a : Word) : VariantWellFormed.Statement (.cmpAbsoluteX a) := rfl
theorem VariantWellFormed.cmpAbsoluteY (a : Word) : VariantWellFormed.Statement (.cmpAbsoluteY a) := rfl
theorem VariantWellFormed.cmpIndirectX (a : Byte) : VariantWellFormed.Statement (.cmpIndirectX a) := rfl
theorem VariantWellFormed.cmpIndirectY (a : Byte) : VariantWellFormed.Statement (.cmpIndirectY a) := rfl
theorem VariantWellFormed.cpxImmediate (imm : Byte) : VariantWellFormed.Statement (.cpxImmediate imm) := rfl
theorem VariantWellFormed.cpxZeroPage (a : Byte) : VariantWellFormed.Statement (.cpxZeroPage a) := rfl
theorem VariantWellFormed.cpxAbsolute (a : Word) : VariantWellFormed.Statement (.cpxAbsolute a) := rfl
theorem VariantWellFormed.cpyImmediate (imm : Byte) : VariantWellFormed.Statement (.cpyImmediate imm) := rfl
theorem VariantWellFormed.cpyZeroPage (a : Byte) : VariantWellFormed.Statement (.cpyZeroPage a) := rfl
theorem VariantWellFormed.cpyAbsolute (a : Word) : VariantWellFormed.Statement (.cpyAbsolute a) := rfl

end Sys2Proof.Laws
end

