-- ==== Sys2Proof/Tests/Slice0.lean ====
section
/-! SUPPORT. The model's own tests: small states, one step each. Expected results are the examples of the
instruction rules (41 to 45) and the vectors of 95_test_vectors.md, which the spec derives from its rules;
the words are written out from the rules' encodings. The witnesses at the end show, for each statement with
hypotheses, a concrete state and operands that meet them. -/

open Sys2Proof Sys2Proof.Machine Sys2Proof.Forms

namespace Sys2Proof.Tests

/-- The flags in the order the spec prints them, N V D I Z C. -/
def flags (n v d i z c : Nat) : Status :=
  { n := n == 1, v := v == 1, d := d == 1, i := i == 1, z := z == 1, c := c == 1 }

/-- Memory as created with the given cells written. -/
def memoryOf (cells : List (Word × Byte)) : Memory :=
  cells.foldl (fun (m : Memory) c => m.write c.1 c.2) []

/-- A Ready state with the bytes `code` at `org`, which is the PC. -/
def start (a x y : Byte) (p : Status) (org : Word) (code : List Byte) (cells : List (Word × Byte)) :
    State :=
  { a := a, x := x, y := y, sp := 0xFF#8, pc := org, p := p,
    mem := (memoryOf cells).copy org code, rs := .ready, fr := none }

/-- The answer is the given next state. -/
def answers (r : Result) (t : State) : Bool :=
  match r with
  | .next u => u == t
  | .fault _ | .refused _ => false

theorem answers_next {r : Result} {t : State} (h : answers r t = true) : r = .next t := by
  cases r with
  | next u => simpa [answers] using h
  | fault _ => cases h
  | refused _ => cases h

/-- One step changes the state as given, and nothing else. -/
def stepChanges (s : State) (change : State → State) : Bool := answers (step s) (change s)

/-- The bytes are exactly this instruction. -/
def reads (bytes : List Byte) (i : Instr) : Bool := decide (decode bytes = .ok (i, []))

/-! ## Decoding -/

/-- Bytes written out from "bytes in memory order" of each rule of the family. -/
theorem test_decode_break_clear : (
    reads [0x00#8] .brk &&
    reads [0x18#8] .clc &&
    reads [0xD8#8] .cld &&
    reads [0x58#8] .cli &&
    reads [0xB8#8] .clv) = true := by decide

/-- Bytes written out from "bytes in memory order" of each rule of the family. -/
theorem test_decode_ld_trr_in : (
    reads [0xA9#8, 0x81#8] (.ldaImmediate 0x81#8) &&
    reads [0xA5#8, 0x81#8] (.ldaZeroPage 0x81#8) &&
    reads [0xB5#8, 0x81#8] (.ldaZeroPageX 0x81#8) &&
    reads [0xAD#8, 0x34#8, 0x12#8] (.ldaAbsolute 0x1234#16) &&
    reads [0xBD#8, 0x34#8, 0x12#8] (.ldaAbsoluteX 0x1234#16) &&
    reads [0xB9#8, 0x34#8, 0x12#8] (.ldaAbsoluteY 0x1234#16) &&
    reads [0xA1#8, 0x81#8] (.ldaIndirectX 0x81#8) &&
    reads [0xB1#8, 0x81#8] (.ldaIndirectY 0x81#8) &&
    reads [0xA2#8, 0x81#8] (.ldxImmediate 0x81#8) &&
    reads [0xA6#8, 0x81#8] (.ldxZeroPage 0x81#8) &&
    reads [0xB6#8, 0x81#8] (.ldxZeroPageY 0x81#8) &&
    reads [0xAE#8, 0x34#8, 0x12#8] (.ldxAbsolute 0x1234#16) &&
    reads [0xBE#8, 0x34#8, 0x12#8] (.ldxAbsoluteY 0x1234#16) &&
    reads [0xA0#8, 0x81#8] (.ldyImmediate 0x81#8) &&
    reads [0xA4#8, 0x81#8] (.ldyZeroPage 0x81#8) &&
    reads [0xB4#8, 0x81#8] (.ldyZeroPageX 0x81#8) &&
    reads [0xAC#8, 0x34#8, 0x12#8] (.ldyAbsolute 0x1234#16) &&
    reads [0xBC#8, 0x34#8, 0x12#8] (.ldyAbsoluteX 0x1234#16) &&
    reads [0xAA#8] .tax &&
    reads [0xE8#8] .inx) = true := by decide

/-- Bytes written out from "bytes in memory order" of each rule of the family. -/
theorem test_decode_adc : (
    reads [0x69#8, 0x81#8] (.adcImmediate 0x81#8) &&
    reads [0x65#8, 0x81#8] (.adcZeroPage 0x81#8) &&
    reads [0x75#8, 0x81#8] (.adcZeroPageX 0x81#8) &&
    reads [0x6D#8, 0x34#8, 0x12#8] (.adcAbsolute 0x1234#16) &&
    reads [0x7D#8, 0x34#8, 0x12#8] (.adcAbsoluteX 0x1234#16) &&
    reads [0x79#8, 0x34#8, 0x12#8] (.adcAbsoluteY 0x1234#16) &&
    reads [0x61#8, 0x81#8] (.adcIndirectX 0x81#8) &&
    reads [0x71#8, 0x81#8] (.adcIndirectY 0x81#8)) = true := by decide

/-- Bytes written out from "bytes in memory order" of each rule of the family. -/
theorem test_decode_and : (
    reads [0x29#8, 0x81#8] (.andImmediate 0x81#8) &&
    reads [0x25#8, 0x81#8] (.andZeroPage 0x81#8) &&
    reads [0x35#8, 0x81#8] (.andZeroPageX 0x81#8) &&
    reads [0x2D#8, 0x34#8, 0x12#8] (.andAbsolute 0x1234#16) &&
    reads [0x3D#8, 0x34#8, 0x12#8] (.andAbsoluteX 0x1234#16) &&
    reads [0x39#8, 0x34#8, 0x12#8] (.andAbsoluteY 0x1234#16) &&
    reads [0x21#8, 0x81#8] (.andIndirectX 0x81#8) &&
    reads [0x31#8, 0x81#8] (.andIndirectY 0x81#8)) = true := by decide

/-- Bytes written out from "bytes in memory order" of each rule of the family. -/
theorem test_decode_asl_bit : (
    reads [0x0A#8] .aslAccumulator &&
    reads [0x06#8, 0x81#8] (.aslZeroPage 0x81#8) &&
    reads [0x16#8, 0x81#8] (.aslZeroPageX 0x81#8) &&
    reads [0x0E#8, 0x34#8, 0x12#8] (.aslAbsolute 0x1234#16) &&
    reads [0x1E#8, 0x34#8, 0x12#8] (.aslAbsoluteX 0x1234#16) &&
    reads [0x24#8, 0x81#8] (.bitZeroPage 0x81#8) &&
    reads [0x2C#8, 0x34#8, 0x12#8] (.bitAbsolute 0x1234#16)) = true := by decide

/-- Bytes written out from "bytes in memory order" of each rule of the family. -/
theorem test_decode_branch : (
    reads [0x90#8, 0x81#8] (.bcc 0x81#8) &&
    reads [0xB0#8, 0x81#8] (.bcs 0x81#8) &&
    reads [0xF0#8, 0x81#8] (.beq 0x81#8) &&
    reads [0x30#8, 0x81#8] (.bmi 0x81#8) &&
    reads [0xD0#8, 0x81#8] (.bne 0x81#8) &&
    reads [0x10#8, 0x81#8] (.bpl 0x81#8) &&
    reads [0x50#8, 0x81#8] (.bvc 0x81#8) &&
    reads [0x70#8, 0x81#8] (.bvs 0x81#8)) = true := by decide

/-- Bytes written out from "bytes in memory order" of each rule of the family. -/
theorem test_decode_cmp : (
    reads [0xC9#8, 0x81#8] (.cmpImmediate 0x81#8) &&
    reads [0xC5#8, 0x81#8] (.cmpZeroPage 0x81#8) &&
    reads [0xD5#8, 0x81#8] (.cmpZeroPageX 0x81#8) &&
    reads [0xCD#8, 0x34#8, 0x12#8] (.cmpAbsolute 0x1234#16) &&
    reads [0xDD#8, 0x34#8, 0x12#8] (.cmpAbsoluteX 0x1234#16) &&
    reads [0xD9#8, 0x34#8, 0x12#8] (.cmpAbsoluteY 0x1234#16) &&
    reads [0xC1#8, 0x81#8] (.cmpIndirectX 0x81#8) &&
    reads [0xD1#8, 0x81#8] (.cmpIndirectY 0x81#8) &&
    reads [0xE0#8, 0x81#8] (.cpxImmediate 0x81#8) &&
    reads [0xE4#8, 0x81#8] (.cpxZeroPage 0x81#8) &&
    reads [0xEC#8, 0x34#8, 0x12#8] (.cpxAbsolute 0x1234#16) &&
    reads [0xC0#8, 0x81#8] (.cpyImmediate 0x81#8) &&
    reads [0xC4#8, 0x81#8] (.cpyZeroPage 0x81#8) &&
    reads [0xCC#8, 0x34#8, 0x12#8] (.cpyAbsolute 0x1234#16)) = true := by decide
/-- 30_encoding.md R58, R59: 70 of the 256 bytes are opcodes. -/
theorem test_seventy_opcodes :
    ((List.range 256).filter fun n => (formatOf (BitVec.ofNat 8 n)).isSome).length = 70 := by decide

/-- 30_encoding.md section 5: both ends of every range are invalid, and the ranges hold 186 bytes. -/
theorem test_invalid_ranges :
    (invalidRanges.all fun r => (formatOf (BitVec.ofNat 8 r.1)).isNone &&
      (formatOf (BitVec.ofNat 8 r.2)).isNone) = true ∧
    (invalidRanges.map fun r => r.2 + 1 - r.1).sum = 186 := by decide

/-- Vectors DEC-17 to DEC-19: fetch wraps at 16 bits. -/
theorem test_decode_wraps :
    decodeAt (start 0#8 0#8 0#8 (flags 0 0 0 0 0 0) 0xFFFF#16 [0xA9#8, 0x7F#8] []).mem 0xFFFF#16 =
      .ok (.ldaImmediate 0x7F#8, 0x0001#16) ∧
    decodeAt (start 0#8 0#8 0#8 (flags 0 0 0 0 0 0) 0xFFFE#16 [0xAD#8, 0x34#8, 0x12#8] []).mem
      0xFFFE#16 = .ok (.ldaAbsolute 0x1234#16, 0x0001#16) ∧
    decodeAt (start 0#8 0#8 0#8 (flags 0 0 0 0 0 0) 0xFFFF#16 [0xE8#8] []).mem 0xFFFF#16 =
      .ok (.inx, 0x0000#16) := by decide

/-- Vectors DEC-20 to DEC-23. -/
theorem test_decode_invalid :
    decode [0xEA#8] = .error (.invalidInstructionCode 0xEA#8) ∧
    decode [0x8D#8, 0x00#8, 0x02#8] = .error (.invalidInstructionCode 0x8D#8) ∧
    decode [0xFF#8] = .error (.invalidInstructionCode 0xFF#8) ∧
    decode [0x89#8, 0x00#8] = .error (.invalidInstructionCode 0x89#8) := by decide

/-- A list that ends inside an instruction is refused by name. -/
theorem test_decode_short_lists :
    decode [] = .error .noOpcode ∧ decode [0xA9#8] = .error (.missingOperand 0xA9#8) ∧
    decode [0xAD#8, 0x34#8] = .error (.missingOperand 0xAD#8) := by decide

/-- Table numbering: bit 0 is the least significant bit of the first byte. -/
theorem test_table_words :
    decodeTableWord 24 0x1234AD = some (.ldaAbsolute 0x1234#16) ∧
    decodeTableWord 8 0x1234AD = some (.ldaAbsolute 0x0000#16) ∧
    decodeTableWord 8 0xEA = none := by decide

/-! ## Well-formedness: an ill-formed term for each check (40_addressing_modes.md R85, R86) -/

/-- No instruction clears Z or N (41_break_clear.md R91). -/
theorem test_refused_clear : Variant.wellFormed (.clear .zero) = false ∧
    Variant.wellFormed (.clear .negative) = false := by decide

/-- The load sets of A, X and Y. -/
theorem test_refused_ld : Variant.wellFormed (.ld .a (.mem (.zeroPageY 0x10#8))) = false ∧
    Variant.wellFormed (.ld .a .accumulator) = false ∧
    Variant.wellFormed (.ld .x (.mem (.zeroPageX 0x10#8))) = false ∧
    Variant.wellFormed (.ld .x (.mem (.indirectX 0x10#8))) = false ∧
    Variant.wellFormed (.ld .y (.mem (.zeroPageY 0x10#8))) = false ∧
    Variant.wellFormed (.ld .y (.mem (.absoluteY 0x1000#16))) = false := by decide

/-- TAX is the one transfer, INX the one increment. -/
theorem test_refused_trr_inc : Variant.wellFormed (.trr .x .a) = false ∧
    Variant.wellFormed (.trr .a .y) = false ∧ Variant.wellFormed (.inc .y) = false ∧
    Variant.wellFormed (.inc .a) = false := by decide

/-- Adc and And take no ZeroPageY, no Accumulator and no Relative. -/
theorem test_refused_adc_and : Variant.wellFormed (.adc .accumulator) = false ∧
    Variant.wellFormed (.adc (.relative 0x10#8)) = false ∧
    Variant.wellFormed (.and (.mem (.zeroPageY 0x10#8))) = false := by decide

/-- "ASL accepts Accumulator but not Immediate" (43_arithmetic_logic.md R148); BIT has two modes. -/
theorem test_refused_asl_bit : Variant.wellFormed (.asl (.immediate 0x10#8)) = false ∧
    Variant.wellFormed (.asl (.mem (.absoluteY 0x1000#16))) = false ∧
    Variant.wellFormed (.bit (.immediate 0x10#8)) = false ∧
    Variant.wellFormed (.bit (.mem (.zeroPageX 0x10#8))) = false := by decide

/-- A branch is Relative and tests C, Z, N or V. -/
theorem test_refused_branch :
    Variant.wellFormed (.branch (.mem (.absolute 0x1000#16)) .carry true) = false ∧
    Variant.wellFormed (.branch (.relative 0x10#8) .interruptDisable true) = false ∧
    Variant.wellFormed (.branch (.relative 0x10#8) .decimal false) = false := by decide

/-- The compare sets of A, X and Y. -/
theorem test_refused_cmp : Variant.wellFormed (.cmp .a (.mem (.zeroPageY 0x10#8))) = false ∧
    Variant.wellFormed (.cmp .x (.mem (.zeroPageX 0x10#8))) = false ∧
    Variant.wellFormed (.cmp .y (.mem (.indirectX 0x10#8))) = false := by decide

/-! ## Instructions, one step each -/

/-- 41_break_clear.md R90, its example. -/
theorem test_brk : stepChanges (start 0x42#8 0x00#8 0x00#8 (flags 1 0 0 0 0 1) 0x8000#16
      [0x00#8] [])
    (fun s => { s with a := 0x42#8, p := flags 1 0 0 0 0 1, pc := 0x8001#16, rs := .halted }) = true := by decide

/-- 41_break_clear.md R92, its example. -/
theorem test_clc : stepChanges (start 0x42#8 0x00#8 0x00#8 (flags 1 1 1 1 1 1) 0x8000#16
      [0x18#8] [])
    (fun s => { s with p := flags 1 1 1 1 1 0, pc := 0x8001#16 }) = true := by decide

/-- 41_break_clear.md R93, its example. -/
theorem test_cld : stepChanges (start 0x42#8 0x00#8 0x00#8 (flags 1 1 1 1 1 1) 0x8000#16
      [0xD8#8] [])
    (fun s => { s with p := flags 1 1 0 1 1 1, pc := 0x8001#16 }) = true := by decide

/-- 41_break_clear.md R94, its example. -/
theorem test_cli : stepChanges (start 0x42#8 0x00#8 0x00#8 (flags 1 1 1 1 1 1) 0x8000#16
      [0x58#8] [])
    (fun s => { s with p := flags 1 1 1 0 1 1, pc := 0x8001#16 }) = true := by decide

/-- 41_break_clear.md R95, its example. -/
theorem test_clv : stepChanges (start 0x42#8 0x00#8 0x00#8 (flags 1 1 1 1 1 1) 0x8000#16
      [0xB8#8] [])
    (fun s => { s with p := flags 1 0 1 1 1 1, pc := 0x8001#16 }) = true := by decide

/-- 42_load_transfer_increment.md R101, its example. -/
theorem test_ldaImmediate : stepChanges (start 0x11#8 0x00#8 0x00#8 (flags 0 1 0 0 0 1) 0x8000#16
      [0xA9#8, 0xF0#8] [])
    (fun s => { s with a := 0xF0#8, p := flags 1 1 0 0 0 1, pc := 0x8002#16 }) = true := by decide

/-- 42_load_transfer_increment.md R102, its example. -/
theorem test_ldaZeroPage : stepChanges (start 0x11#8 0x00#8 0x00#8 (flags 0 1 0 0 0 1) 0x8000#16
      [0xA5#8, 0x10#8] [(0x0010#16, 0x00#8)])
    (fun s => { s with a := 0x00#8, p := flags 0 1 0 0 1 1, pc := 0x8002#16 }) = true := by decide

/-- 42_load_transfer_increment.md R103, its example. -/
theorem test_ldaZeroPageX : stepChanges (start 0x11#8 0x02#8 0x00#8 (flags 0 1 0 0 0 1) 0x8000#16
      [0xB5#8, 0xFF#8] [(0x0001#16, 0x7E#8)])
    (fun s => { s with a := 0x7E#8, p := flags 0 1 0 0 0 1, pc := 0x8002#16 }) = true := by decide

/-- 42_load_transfer_increment.md R104, its example. -/
theorem test_ldaAbsolute : stepChanges (start 0x11#8 0x00#8 0x00#8 (flags 0 1 0 0 0 1) 0x8000#16
      [0xAD#8, 0x34#8, 0x12#8] [(0x1234#16, 0x80#8)])
    (fun s => { s with a := 0x80#8, p := flags 1 1 0 0 0 1, pc := 0x8003#16 }) = true := by decide

/-- 42_load_transfer_increment.md R105, its example. -/
theorem test_ldaAbsoluteX : stepChanges (start 0x11#8 0x02#8 0x00#8 (flags 0 1 0 0 0 1) 0x8000#16
      [0xBD#8, 0xFF#8, 0xFF#8] [(0x0001#16, 0x01#8)])
    (fun s => { s with a := 0x01#8, p := flags 0 1 0 0 0 1, pc := 0x8003#16 }) = true := by decide

/-- 42_load_transfer_increment.md R106, its example. -/
theorem test_ldaAbsoluteY : stepChanges (start 0x11#8 0x00#8 0x20#8 (flags 0 1 0 0 0 1) 0x8000#16
      [0xB9#8, 0xF0#8, 0xFF#8] [(0x0010#16, 0xFF#8)])
    (fun s => { s with a := 0xFF#8, p := flags 1 1 0 0 0 1, pc := 0x8003#16 }) = true := by decide

/-- 42_load_transfer_increment.md R107, its example. -/
theorem test_ldaIndirectX : stepChanges (start 0x11#8 0x01#8 0x00#8 (flags 0 1 0 0 0 1) 0x8000#16
      [0xA1#8, 0xFE#8] [(0x0000#16, 0x12#8), (0x00FF#16, 0x34#8), (0x1234#16, 0x5A#8)])
    (fun s => { s with a := 0x5A#8, p := flags 0 1 0 0 0 1, pc := 0x8002#16 }) = true := by decide

/-- 42_load_transfer_increment.md R108, its example. -/
theorem test_ldaIndirectY : stepChanges (start 0x11#8 0x00#8 0x20#8 (flags 0 1 0 0 0 1) 0x8000#16
      [0xB1#8, 0xFF#8] [(0x0000#16, 0xFF#8), (0x0010#16, 0xC3#8), (0x00FF#16, 0xF0#8)])
    (fun s => { s with a := 0xC3#8, p := flags 1 1 0 0 0 1, pc := 0x8002#16 }) = true := by decide

/-- 42_load_transfer_increment.md R109, its example. -/
theorem test_ldxImmediate : stepChanges (start 0x11#8 0x00#8 0x00#8 (flags 0 1 0 0 0 1) 0x8000#16
      [0xA2#8, 0xF0#8] [])
    (fun s => { s with x := 0xF0#8, p := flags 1 1 0 0 0 1, pc := 0x8002#16 }) = true := by decide

/-- 42_load_transfer_increment.md R110, its example. -/
theorem test_ldxZeroPage : stepChanges (start 0x11#8 0x00#8 0x00#8 (flags 0 1 0 0 0 1) 0x8000#16
      [0xA6#8, 0x10#8] [(0x0010#16, 0x00#8)])
    (fun s => { s with x := 0x00#8, p := flags 0 1 0 0 1 1, pc := 0x8002#16 }) = true := by decide

/-- 42_load_transfer_increment.md R111, its example. -/
theorem test_ldxZeroPageY : stepChanges (start 0x11#8 0x00#8 0x02#8 (flags 0 1 0 0 0 1) 0x8000#16
      [0xB6#8, 0xFF#8] [(0x0001#16, 0x7E#8)])
    (fun s => { s with x := 0x7E#8, p := flags 0 1 0 0 0 1, pc := 0x8002#16 }) = true := by decide

/-- 42_load_transfer_increment.md R112, its example. -/
theorem test_ldxAbsolute : stepChanges (start 0x11#8 0x00#8 0x00#8 (flags 0 1 0 0 0 1) 0x8000#16
      [0xAE#8, 0x34#8, 0x12#8] [(0x1234#16, 0x80#8)])
    (fun s => { s with x := 0x80#8, p := flags 1 1 0 0 0 1, pc := 0x8003#16 }) = true := by decide

/-- 42_load_transfer_increment.md R113, its example. -/
theorem test_ldxAbsoluteY : stepChanges (start 0x11#8 0x00#8 0x20#8 (flags 0 1 0 0 0 1) 0x8000#16
      [0xBE#8, 0xF0#8, 0xFF#8] [(0x0010#16, 0xFF#8)])
    (fun s => { s with x := 0xFF#8, p := flags 1 1 0 0 0 1, pc := 0x8003#16 }) = true := by decide

/-- 42_load_transfer_increment.md R114, its example. -/
theorem test_ldyImmediate : stepChanges (start 0x11#8 0x00#8 0x00#8 (flags 0 1 0 0 0 1) 0x8000#16
      [0xA0#8, 0xF0#8] [])
    (fun s => { s with y := 0xF0#8, p := flags 1 1 0 0 0 1, pc := 0x8002#16 }) = true := by decide

/-- 42_load_transfer_increment.md R115, its example. -/
theorem test_ldyZeroPage : stepChanges (start 0x11#8 0x00#8 0x00#8 (flags 0 1 0 0 0 1) 0x8000#16
      [0xA4#8, 0x10#8] [(0x0010#16, 0x00#8)])
    (fun s => { s with y := 0x00#8, p := flags 0 1 0 0 1 1, pc := 0x8002#16 }) = true := by decide

/-- 42_load_transfer_increment.md R116, its example. -/
theorem test_ldyZeroPageX : stepChanges (start 0x11#8 0x02#8 0x00#8 (flags 0 1 0 0 0 1) 0x8000#16
      [0xB4#8, 0xFF#8] [(0x0001#16, 0x7E#8)])
    (fun s => { s with y := 0x7E#8, p := flags 0 1 0 0 0 1, pc := 0x8002#16 }) = true := by decide

/-- 42_load_transfer_increment.md R117, its example. -/
theorem test_ldyAbsolute : stepChanges (start 0x11#8 0x00#8 0x00#8 (flags 0 1 0 0 0 1) 0x8000#16
      [0xAC#8, 0x34#8, 0x12#8] [(0x1234#16, 0x80#8)])
    (fun s => { s with y := 0x80#8, p := flags 1 1 0 0 0 1, pc := 0x8003#16 }) = true := by decide

/-- 42_load_transfer_increment.md R118, its example. -/
theorem test_ldyAbsoluteX : stepChanges (start 0x11#8 0x02#8 0x00#8 (flags 0 1 0 0 0 1) 0x8000#16
      [0xBC#8, 0xFF#8, 0xFF#8] [(0x0001#16, 0x01#8)])
    (fun s => { s with y := 0x01#8, p := flags 0 1 0 0 0 1, pc := 0x8003#16 }) = true := by decide

/-- 42_load_transfer_increment.md R120, its example. -/
theorem test_tax : stepChanges (start 0x80#8 0x33#8 0x00#8 (flags 0 0 0 0 1 1) 0x8000#16
      [0xAA#8] [])
    (fun s => { s with a := 0x80#8, x := 0x80#8, p := flags 1 0 0 0 0 1, pc := 0x8001#16 }) = true := by decide

/-- 42_load_transfer_increment.md R122, its example. -/
theorem test_inx : stepChanges (start 0x00#8 0xFF#8 0x00#8 (flags 0 1 0 0 0 1) 0x8000#16
      [0xE8#8] [])
    (fun s => { s with x := 0x00#8, p := flags 0 1 0 0 1 1, pc := 0x8001#16 }) = true := by decide

/-- 43_arithmetic_logic.md R131, its example. -/
theorem test_adcImmediate : stepChanges (start 0x80#8 0x00#8 0x00#8 (flags 0 0 0 0 0 0) 0x8000#16
      [0x69#8, 0x80#8] [])
    (fun s => { s with a := 0x00#8, p := flags 0 1 0 0 1 1, pc := 0x8002#16 }) = true := by decide

/-- 43_arithmetic_logic.md R132, its example. -/
theorem test_adcZeroPage : stepChanges (start 0x00#8 0x00#8 0x00#8 (flags 0 0 0 0 0 0) 0x8000#16
      [0x65#8, 0x02#8] [(0x0000#16, 0x01#8), (0x0001#16, 0x02#8), (0x0002#16, 0xF0#8), (0x0003#16, 0x04#8)])
    (fun s => { s with a := 0xF0#8, p := flags 1 0 0 0 0 0, pc := 0x8002#16 }) = true := by decide

/-- 43_arithmetic_logic.md R133, its example. -/
theorem test_adcZeroPageX : stepChanges (start 0x50#8 0x02#8 0x00#8 (flags 0 0 0 0 0 0) 0x8000#16
      [0x75#8, 0xFF#8] [(0x0001#16, 0x50#8)])
    (fun s => { s with a := 0xA0#8, p := flags 1 1 0 0 0 0, pc := 0x8002#16 }) = true := by decide

/-- 43_arithmetic_logic.md R134, its example. -/
theorem test_adcAbsolute : stepChanges (start 0xFF#8 0x00#8 0x00#8 (flags 0 0 0 0 0 0) 0x8000#16
      [0x6D#8, 0x34#8, 0x12#8] [(0x1234#16, 0x01#8)])
    (fun s => { s with a := 0x00#8, p := flags 0 0 0 0 1 1, pc := 0x8003#16 }) = true := by decide

/-- 43_arithmetic_logic.md R135, its example. -/
theorem test_adcAbsoluteX : stepChanges (start 0x7F#8 0x02#8 0x00#8 (flags 0 0 0 0 0 1) 0x8000#16
      [0x7D#8, 0xFF#8, 0xFF#8] [(0x0001#16, 0x00#8)])
    (fun s => { s with a := 0x80#8, p := flags 1 1 0 0 0 0, pc := 0x8003#16 }) = true := by decide

/-- 43_arithmetic_logic.md R136, its example. -/
theorem test_adcAbsoluteY : stepChanges (start 0xFF#8 0x00#8 0x20#8 (flags 0 0 0 0 0 1) 0x8000#16
      [0x79#8, 0xF0#8, 0xFF#8] [(0x0010#16, 0xFF#8)])
    (fun s => { s with a := 0xFF#8, p := flags 1 0 0 0 0 1, pc := 0x8003#16 }) = true := by decide

/-- 43_arithmetic_logic.md R137, its example. -/
theorem test_adcIndirectX : stepChanges (start 0x01#8 0x01#8 0x00#8 (flags 0 0 0 0 0 1) 0x8000#16
      [0x61#8, 0xFE#8] [(0x0000#16, 0x12#8), (0x00FF#16, 0x34#8), (0x1234#16, 0x01#8)])
    (fun s => { s with a := 0x03#8, p := flags 0 0 0 0 0 0, pc := 0x8002#16 }) = true := by decide

/-- 43_arithmetic_logic.md R138, its example. -/
theorem test_adcIndirectY : stepChanges (start 0xD0#8 0x00#8 0x20#8 (flags 0 0 0 0 0 0) 0x8000#16
      [0x71#8, 0xFF#8] [(0x0000#16, 0xFF#8), (0x0010#16, 0x90#8), (0x00FF#16, 0xF0#8)])
    (fun s => { s with a := 0x60#8, p := flags 0 1 0 0 0 1, pc := 0x8002#16 }) = true := by decide

/-- 43_arithmetic_logic.md R140, its example. -/
theorem test_andImmediate : stepChanges (start 0x00#8 0x00#8 0x00#8 (flags 0 1 0 0 0 1) 0x8000#16
      [0x29#8, 0xD3#8] [])
    (fun s => { s with a := 0x00#8, p := flags 0 1 0 0 1 1, pc := 0x8002#16 }) = true := by decide

/-- 43_arithmetic_logic.md R141, its example. -/
theorem test_andZeroPage : stepChanges (start 0xFF#8 0x00#8 0x00#8 (flags 0 1 0 0 0 1) 0x8000#16
      [0x25#8, 0x10#8] [(0x0010#16, 0x80#8)])
    (fun s => { s with a := 0x80#8, p := flags 1 1 0 0 0 1, pc := 0x8002#16 }) = true := by decide

/-- 43_arithmetic_logic.md R142, its example. -/
theorem test_andZeroPageX : stepChanges (start 0xF0#8 0x02#8 0x00#8 (flags 0 1 0 0 0 1) 0x8000#16
      [0x35#8, 0xFF#8] [(0x0001#16, 0x3C#8)])
    (fun s => { s with a := 0x30#8, p := flags 0 1 0 0 0 1, pc := 0x8002#16 }) = true := by decide

/-- 43_arithmetic_logic.md R143, its example. -/
theorem test_andAbsolute : stepChanges (start 0xAA#8 0x00#8 0x00#8 (flags 0 1 0 0 0 1) 0x8000#16
      [0x2D#8, 0x34#8, 0x12#8] [(0x1234#16, 0x55#8)])
    (fun s => { s with a := 0x00#8, p := flags 0 1 0 0 1 1, pc := 0x8003#16 }) = true := by decide

/-- 43_arithmetic_logic.md R144, its example. -/
theorem test_andAbsoluteX : stepChanges (start 0xFF#8 0x02#8 0x00#8 (flags 0 1 0 0 0 1) 0x8000#16
      [0x3D#8, 0xFF#8, 0xFF#8] [(0x0001#16, 0xFF#8)])
    (fun s => { s with a := 0xFF#8, p := flags 1 1 0 0 0 1, pc := 0x8003#16 }) = true := by decide

/-- 43_arithmetic_logic.md R145, its example. -/
theorem test_andAbsoluteY : stepChanges (start 0x0F#8 0x00#8 0x20#8 (flags 0 1 0 0 0 1) 0x8000#16
      [0x39#8, 0xF0#8, 0xFF#8] [(0x0010#16, 0xF8#8)])
    (fun s => { s with a := 0x08#8, p := flags 0 1 0 0 0 1, pc := 0x8003#16 }) = true := by decide

/-- 43_arithmetic_logic.md R146, its example. -/
theorem test_andIndirectX : stepChanges (start 0xC3#8 0x01#8 0x00#8 (flags 0 1 0 0 0 1) 0x8000#16
      [0x21#8, 0xFE#8] [(0x0000#16, 0x12#8), (0x00FF#16, 0x34#8), (0x1234#16, 0x81#8)])
    (fun s => { s with a := 0x81#8, p := flags 1 1 0 0 0 1, pc := 0x8002#16 }) = true := by decide

/-- 43_arithmetic_logic.md R147, its example. -/
theorem test_andIndirectY : stepChanges (start 0x7F#8 0x00#8 0x20#8 (flags 0 1 0 0 0 1) 0x8000#16
      [0x31#8, 0xFF#8] [(0x0000#16, 0xFF#8), (0x0010#16, 0xFF#8), (0x00FF#16, 0xF0#8)])
    (fun s => { s with a := 0x7F#8, p := flags 0 1 0 0 0 1, pc := 0x8002#16 }) = true := by decide

/-- 43_arithmetic_logic.md R149, its example. -/
theorem test_aslAccumulator : stepChanges (start 0x55#8 0x00#8 0x00#8 (flags 0 1 0 0 0 1) 0x8000#16
      [0x0A#8] [])
    (fun s => { s with a := 0xAA#8, p := flags 1 1 0 0 0 0, pc := 0x8001#16 }) = true := by decide

/-- 43_arithmetic_logic.md R150, its example. -/
theorem test_aslZeroPage : stepChanges (start 0x11#8 0x00#8 0x00#8 (flags 0 1 0 0 0 0) 0x8000#16
      [0x06#8, 0x10#8] [(0x0010#16, 0x80#8)])
    (fun s => { s with a := 0x11#8, mem := s.mem.write 0x0010#16 0x00#8, p := flags 0 1 0 0 1 1, pc := 0x8002#16 }) = true := by decide

/-- 43_arithmetic_logic.md R151, its example. -/
theorem test_aslZeroPageX : stepChanges (start 0x11#8 0x02#8 0x00#8 (flags 0 1 0 0 0 1) 0x8000#16
      [0x16#8, 0xFF#8] [(0x0001#16, 0xC0#8)])
    (fun s => { s with a := 0x11#8, mem := s.mem.write 0x0001#16 0x80#8, p := flags 1 1 0 0 0 1, pc := 0x8002#16 }) = true := by decide

/-- 43_arithmetic_logic.md R152, its example. -/
theorem test_aslAbsolute : stepChanges (start 0x11#8 0x00#8 0x00#8 (flags 0 1 0 0 0 1) 0x8000#16
      [0x0E#8, 0x34#8, 0x12#8] [(0x1234#16, 0x01#8)])
    (fun s => { s with a := 0x11#8, mem := s.mem.write 0x1234#16 0x02#8, p := flags 0 1 0 0 0 0, pc := 0x8003#16 }) = true := by decide

/-- 43_arithmetic_logic.md R153, its example. -/
theorem test_aslAbsoluteX : stepChanges (start 0x11#8 0x02#8 0x00#8 (flags 0 1 0 0 0 1) 0x8000#16
      [0x1E#8, 0xFF#8, 0xFF#8] [(0x0001#16, 0x7F#8)])
    (fun s => { s with a := 0x11#8, mem := s.mem.write 0x0001#16 0xFE#8, p := flags 1 1 0 0 0 0, pc := 0x8003#16 }) = true := by decide

/-- 43_arithmetic_logic.md R155, its example. -/
theorem test_bitZeroPage : stepChanges (start 0x01#8 0x00#8 0x00#8 (flags 0 0 0 0 0 1) 0x8000#16
      [0x24#8, 0x10#8] [(0x0010#16, 0xC0#8)])
    (fun s => { s with a := 0x01#8, p := flags 1 1 0 0 1 1, pc := 0x8002#16 }) = true := by decide

/-- 43_arithmetic_logic.md R156, its example. -/
theorem test_bitAbsolute : stepChanges (start 0xFF#8 0x00#8 0x00#8 (flags 0 0 0 0 0 1) 0x8000#16
      [0x2C#8, 0x34#8, 0x12#8] [(0x1234#16, 0x41#8)])
    (fun s => { s with a := 0xFF#8, p := flags 0 1 0 0 0 1, pc := 0x8003#16 }) = true := by decide

/-- 44_branch.md R161, its example. -/
theorem test_bcc_taken : stepChanges (start 0x00#8 0x00#8 0x00#8 (flags 0 0 0 0 0 0) 0x8000#16
      [0x90#8, 0x08#8] [])
    (fun s => { s with pc := 0x800A#16 }) = true := by decide

/-- 44_branch.md R161, its example, second case. -/
theorem test_bcc_not_taken : stepChanges (start 0x00#8 0x00#8 0x00#8 (flags 0 0 0 0 0 1) 0x8000#16
      [0x90#8, 0x08#8] [])
    (fun s => { s with pc := 0x8002#16 }) = true := by decide

/-- 44_branch.md R162, its example. -/
theorem test_bcs_taken : stepChanges (start 0x00#8 0x00#8 0x00#8 (flags 0 0 0 0 0 1) 0x8010#16
      [0xB0#8, 0xFA#8] [])
    (fun s => { s with pc := 0x800C#16 }) = true := by decide

/-- 44_branch.md R162, its example, second case. -/
theorem test_bcs_not_taken : stepChanges (start 0x00#8 0x00#8 0x00#8 (flags 0 0 0 0 0 0) 0x8010#16
      [0xB0#8, 0xFA#8] [])
    (fun s => { s with pc := 0x8012#16 }) = true := by decide

/-- 44_branch.md R163, its example. -/
theorem test_beq_taken : stepChanges (start 0x00#8 0x00#8 0x00#8 (flags 0 0 0 0 1 0) 0x8000#16
      [0xF0#8, 0x7F#8] [])
    (fun s => { s with pc := 0x8081#16 }) = true := by decide

/-- 44_branch.md R163, its example, second case. -/
theorem test_beq_not_taken : stepChanges (start 0x00#8 0x00#8 0x00#8 (flags 0 0 0 0 0 0) 0x8000#16
      [0xF0#8, 0x7F#8] [])
    (fun s => { s with pc := 0x8002#16 }) = true := by decide

/-- 44_branch.md R164, its example. -/
theorem test_bmi_taken : stepChanges (start 0x00#8 0x00#8 0x00#8 (flags 1 0 0 0 0 0) 0x8000#16
      [0x30#8, 0x80#8] [])
    (fun s => { s with pc := 0x7F82#16 }) = true := by decide

/-- 44_branch.md R164, its example, second case. -/
theorem test_bmi_not_taken : stepChanges (start 0x00#8 0x00#8 0x00#8 (flags 0 0 0 0 0 0) 0x8000#16
      [0x30#8, 0x80#8] [])
    (fun s => { s with pc := 0x8002#16 }) = true := by decide

/-- 44_branch.md R165, its example. -/
theorem test_bne_taken : stepChanges (start 0x00#8 0x00#8 0x00#8 (flags 0 0 0 0 0 0) 0x8003#16
      [0xD0#8, 0xFB#8] [])
    (fun s => { s with pc := 0x8000#16 }) = true := by decide

/-- 44_branch.md R165, its example, second case. -/
theorem test_bne_not_taken : stepChanges (start 0x00#8 0x00#8 0x00#8 (flags 0 0 0 0 1 0) 0x8003#16
      [0xD0#8, 0xFB#8] [])
    (fun s => { s with pc := 0x8005#16 }) = true := by decide

/-- 44_branch.md R166, its example. -/
theorem test_bpl_taken : stepChanges (start 0x00#8 0x00#8 0x00#8 (flags 0 0 0 0 0 0) 0xFFF8#16
      [0x10#8, 0x10#8] [])
    (fun s => { s with pc := 0x000A#16 }) = true := by decide

/-- 44_branch.md R166, its example, second case. -/
theorem test_bpl_not_taken : stepChanges (start 0x00#8 0x00#8 0x00#8 (flags 1 0 0 0 0 0) 0xFFF8#16
      [0x10#8, 0x10#8] [])
    (fun s => { s with pc := 0xFFFA#16 }) = true := by decide

/-- 44_branch.md R167, its example. -/
theorem test_bvc_taken : stepChanges (start 0x00#8 0x00#8 0x00#8 (flags 0 0 0 0 0 0) 0x8000#16
      [0x50#8, 0xFE#8] [])
    (fun s => { s with pc := 0x8000#16 }) = true := by decide

/-- 44_branch.md R167, its example, second case. -/
theorem test_bvc_not_taken : stepChanges (start 0x00#8 0x00#8 0x00#8 (flags 0 1 0 0 0 0) 0x8000#16
      [0x50#8, 0xFE#8] [])
    (fun s => { s with pc := 0x8002#16 }) = true := by decide

/-- 44_branch.md R168, its example. -/
theorem test_bvs_taken : stepChanges (start 0x00#8 0x00#8 0x00#8 (flags 0 1 0 0 0 0) 0x0010#16
      [0x70#8, 0x80#8] [])
    (fun s => { s with pc := 0xFF92#16 }) = true := by decide

/-- 44_branch.md R168, its example, second case. -/
theorem test_bvs_not_taken : stepChanges (start 0x00#8 0x00#8 0x00#8 (flags 0 0 0 0 0 0) 0x0010#16
      [0x70#8, 0x80#8] [])
    (fun s => { s with pc := 0x0012#16 }) = true := by decide

/-- 45_compare.md R171, its example. -/
theorem test_cmpImmediate : stepChanges (start 0x40#8 0x00#8 0x00#8 (flags 0 1 0 0 0 0) 0x8000#16
      [0xC9#8, 0x40#8] [])
    (fun s => { s with a := 0x40#8, p := flags 0 1 0 0 1 1, pc := 0x8002#16 }) = true := by decide

/-- 45_compare.md R172, its example. -/
theorem test_cmpZeroPage : stepChanges (start 0x10#8 0x00#8 0x00#8 (flags 0 1 0 0 0 0) 0x8000#16
      [0xC5#8, 0x10#8] [(0x0010#16, 0x20#8)])
    (fun s => { s with a := 0x10#8, p := flags 1 1 0 0 0 0, pc := 0x8002#16 }) = true := by decide

/-- 45_compare.md R173, its example. -/
theorem test_cmpZeroPageX : stepChanges (start 0x20#8 0x02#8 0x00#8 (flags 0 1 0 0 0 0) 0x8000#16
      [0xD5#8, 0xFF#8] [(0x0001#16, 0x10#8)])
    (fun s => { s with a := 0x20#8, p := flags 0 1 0 0 0 1, pc := 0x8002#16 }) = true := by decide

/-- 45_compare.md R174, its example. -/
theorem test_cmpAbsolute : stepChanges (start 0x80#8 0x00#8 0x00#8 (flags 0 1 0 0 0 0) 0x8000#16
      [0xCD#8, 0x34#8, 0x12#8] [(0x1234#16, 0x01#8)])
    (fun s => { s with a := 0x80#8, p := flags 0 1 0 0 0 1, pc := 0x8003#16 }) = true := by decide

/-- 45_compare.md R175, its example. -/
theorem test_cmpAbsoluteX : stepChanges (start 0x00#8 0x02#8 0x00#8 (flags 0 1 0 0 0 0) 0x8000#16
      [0xDD#8, 0xFF#8, 0xFF#8] [(0x0001#16, 0xFF#8)])
    (fun s => { s with a := 0x00#8, p := flags 0 1 0 0 0 0, pc := 0x8003#16 }) = true := by decide

/-- 45_compare.md R176, its example. -/
theorem test_cmpAbsoluteY : stepChanges (start 0xFF#8 0x00#8 0x20#8 (flags 0 1 0 0 0 0) 0x8000#16
      [0xD9#8, 0xF0#8, 0xFF#8] [(0x0010#16, 0x00#8)])
    (fun s => { s with a := 0xFF#8, p := flags 1 1 0 0 0 1, pc := 0x8003#16 }) = true := by decide

/-- 45_compare.md R177, its example. -/
theorem test_cmpIndirectX : stepChanges (start 0x00#8 0x01#8 0x00#8 (flags 0 1 0 0 0 0) 0x8000#16
      [0xC1#8, 0xFE#8] [(0x0000#16, 0x12#8), (0x00FF#16, 0x34#8), (0x1234#16, 0x00#8)])
    (fun s => { s with a := 0x00#8, p := flags 0 1 0 0 1 1, pc := 0x8002#16 }) = true := by decide

/-- 45_compare.md R178, its example. -/
theorem test_cmpIndirectY : stepChanges (start 0x7F#8 0x00#8 0x20#8 (flags 0 1 0 0 0 0) 0x8000#16
      [0xD1#8, 0xFF#8] [(0x0000#16, 0xFF#8), (0x0010#16, 0x80#8), (0x00FF#16, 0xF0#8)])
    (fun s => { s with a := 0x7F#8, p := flags 1 1 0 0 0 0, pc := 0x8002#16 }) = true := by decide

/-- 45_compare.md R179, its example. -/
theorem test_cpxImmediate : stepChanges (start 0x00#8 0x05#8 0x00#8 (flags 0 1 0 0 0 0) 0x8000#16
      [0xE0#8, 0x05#8] [])
    (fun s => { s with x := 0x05#8, p := flags 0 1 0 0 1 1, pc := 0x8002#16 }) = true := by decide

/-- 45_compare.md R180, its example. -/
theorem test_cpxZeroPage : stepChanges (start 0x00#8 0x01#8 0x00#8 (flags 0 1 0 0 0 0) 0x8000#16
      [0xE4#8, 0x10#8] [(0x0010#16, 0x02#8)])
    (fun s => { s with x := 0x01#8, p := flags 1 1 0 0 0 0, pc := 0x8002#16 }) = true := by decide

/-- 45_compare.md R181, its example. -/
theorem test_cpxAbsolute : stepChanges (start 0x00#8 0xF0#8 0x00#8 (flags 0 1 0 0 0 0) 0x8000#16
      [0xEC#8, 0x34#8, 0x12#8] [(0x1234#16, 0x0F#8)])
    (fun s => { s with x := 0xF0#8, p := flags 1 1 0 0 0 1, pc := 0x8003#16 }) = true := by decide

/-- 45_compare.md R182, its example. -/
theorem test_cpyImmediate : stepChanges (start 0x00#8 0x00#8 0x00#8 (flags 0 1 0 0 0 0) 0x8000#16
      [0xC0#8, 0x01#8] [])
    (fun s => { s with y := 0x00#8, p := flags 1 1 0 0 0 0, pc := 0x8002#16 }) = true := by decide

/-- 45_compare.md R183, its example. -/
theorem test_cpyZeroPage : stepChanges (start 0x00#8 0x00#8 0x90#8 (flags 0 1 0 0 0 0) 0x8000#16
      [0xC4#8, 0x10#8] [(0x0010#16, 0x90#8)])
    (fun s => { s with y := 0x90#8, p := flags 0 1 0 0 1 1, pc := 0x8002#16 }) = true := by decide

/-- 45_compare.md R184, its example. -/
theorem test_cpyAbsolute : stepChanges (start 0x00#8 0x00#8 0x03#8 (flags 0 1 0 0 0 0) 0x8000#16
      [0xCC#8, 0x34#8, 0x12#8] [(0x1234#16, 0x02#8)])
    (fun s => { s with y := 0x03#8, p := flags 0 1 0 0 0 1, pc := 0x8003#16 }) = true := by decide

/-! ## More vectors of 95_test_vectors.md -/

/-- ADCX-29: D is ignored. -/
theorem test_adc_decimal : stepChanges (start 0x09#8 0x00#8 0x00#8 (flags 0 0 1 0 0 0) 0x8000#16
      [0x69#8, 0x01#8] [])
    (fun s => { s with a := 0x0A#8, pc := 0x8002#16 }) = true := by decide

/-- ASL-46: an instruction that shifts its own opcode byte. -/
theorem test_asl_own_opcode : stepChanges (start 0x00#8 0x00#8 0x00#8 (flags 0 0 0 0 0 0) 0x8000#16
      [0x0E#8, 0x00#8, 0x80#8] [])
    (fun s => { s with mem := s.mem.write 0x8000#16 0x1C#8, pc := 0x8003#16 }) = true := by decide

/-- CMP-73: the carry comes from X, not from A. -/
theorem test_cpx_carry : stepChanges (start 0xFF#8 0x05#8 0x00#8 (flags 0 0 0 0 0 0) 0x8000#16
      [0xE0#8, 0x10#8] [])
    (fun s => { s with p := flags 1 0 0 0 0 0, pc := 0x8002#16 }) = true := by decide

/-- TI-27 and TI-28: INX with the parameter `IN_SETS_OVERFLOW` true. -/
theorem test_increment_parameter :
    (increment true .x (start 0x00#8 0xFF#8 0x00#8 (flags 0 0 0 0 0 0) 0x8000#16 [] [])).p =
      flags 0 1 0 0 1 0 ∧
    (increment true .x (start 0x00#8 0x7F#8 0x00#8 (flags 0 1 0 0 0 0) 0x8000#16 [] [])).p =
      flags 1 0 0 0 0 0 := by decide

/-- INV-79: the invalid opcode changes RS and FR only. -/
theorem test_invalid_opcode : stepChanges (start 0x12#8 0x34#8 0x56#8 (flags 0 0 0 0 1 1) 0x8000#16
      [0xEA#8] [])
    (fun s => { s with rs := .faulted, fr := some (.invalidInstructionCode 0xEA#8 0x8000#16) })
      = true := by decide

/-- INV-80: no operand is read and nothing is stored. -/
theorem test_invalid_store : stepChanges (start 0x77#8 0x00#8 0x00#8 (flags 0 0 0 0 0 0) 0x8000#16
      [0x8D#8, 0x00#8, 0x02#8] [])
    (fun s => { s with rs := .faulted, fr := some (.invalidInstructionCode 0x8D#8 0x8000#16) })
      = true := by decide

/-- RST-6: a halted machine does not step. -/
theorem test_step_not_enabled :
    stepChanges { State.reset with rs := .halted } (fun s => s) = true := by decide

/-- Property 10: the created and reset machine executes the BRK that zero memory holds. -/
theorem test_first_step_from_reset :
    stepChanges State.reset (fun s => { s with pc := 0x0001#16, rs := .halted }) = true := by decide

/-- The word placed by `withFetchWord` is the first instruction after reset. -/
theorem test_placed_word : answers (step (State.reset.withFetchWord 16 0xF0A9))
    { State.reset.withFetchWord 16 0xF0A9 with
      a := 0xF0#8, p := flags 1 0 0 0 0 0, pc := 0x0002#16 } = true := by decide

/-- MEM-1 to MEM-3: words are little-endian and wrap at the top. -/
theorem test_word_accesses :
    (memoryOf [(0xFFFF#16, 0x34#8), (0x0000#16, 0x12#8)]).readU16 0xFFFF#16 = 0x1234#16 ∧
    Memory.writeU16 [] 0xFFFF#16 0xBEEF#16 = [(0x0000, 0xBE#8), (0xFFFF, 0xEF#8)] ∧
    Memory.writeU16 [] 0x0200#16 0x1234#16 = [(0x0200, 0x34#8), (0x0201, 0x12#8)] := by decide

/-- MEM-4, MEM-5, MEM-7: loads that fit. -/
theorem test_loads_that_fit :
    (hostLoad 0x8000#16 [0xA9#8, 0xF0#8, 0x00#8] create).1.mem =
      [(0x8000, 0xA9#8), (0x8001, 0xF0#8)] ∧
    (hostLoad 0xFFFE#16 [0x01#8, 0x02#8] create).1.mem = [(0xFFFE, 0x01#8), (0xFFFF, 0x02#8)] ∧
    (hostLoad 0xFFFF#16 [] create).1.mem = [] ∧ (hostLoad 0x0000#16 [] create).2 = none := by decide

/-- MEM-6: a load that does not fit writes nothing and is recorded. -/
theorem test_load_out_of_bounds :
    hostLoad 0xFFFE#16 [0x01#8, 0x02#8, 0x03#8] State.reset =
      ({ State.reset with fr := some (.indexOutOfBounds 0xFFFE#16) },
        some (.indexOutOfBounds 0xFFFE#16)) := by decide

/-- ST-1 to ST-4. -/
theorem test_packed_status :
    (Status.clear.set .carry true).packed = 0x01#8 ∧ (flags 1 1 1 1 1 1).packed = 0xCF#8 ∧
    ((Status.clear.set .overflow true).set .negative true).packed = 0xC0#8 ∧
    (((flags 1 1 1 1 1 1).set .zero true).set .zero false).packed = 0xCD#8 := by decide

/-- RST-1, RST-2, RST-4. -/
theorem test_reset :
    (let s : State := { start 0x12#8 0x34#8 0x56#8 (flags 1 1 1 1 1 1) 0xFFFC#16 [0xCD#8, 0xAB#8]
        [(0x0200#16, 0x99#8)] with sp := 0x80#8, rs := .halted }
     s.applyReset = { State.reset with pc := 0xABCD#16, mem := s.mem } ∧
     s.applyResetTest = { State.reset with pc := 0x8000#16, mem := s.mem }) := by decide

/-- Program P9 (a): without a vector the program at 0x8000 does not run. -/
theorem test_load_and_run_without_vector :
    answers (loadAndRun 5 [0xA9#8, 0xF0#8, 0x00#8] create)
      { State.reset with
        mem := [(0x8000, 0xA9#8), (0x8001, 0xF0#8)], pc := 0x0001#16, rs := .halted } = true := by
  decide

/-! ## Witnesses -/

/-- A Ready state over the bytes given, with D and I set so that they can be seen to stay. -/
def at8000 (code : List Byte) : State :=
  start 0x40#8 0x02#8 0x03#8 (flags 0 0 1 1 0 0) 0x8000#16 code [(0x0010#16, 0xC0#8)]

/-- The step of a state, for naming it. -/
def after (s : State) : State :=
  match step s with
  | .next t => t
  | .fault _ | .refused _ => s

theorem step_after {s : State} (h : answers (step s) (after s) = true) : step s = .next (after s) :=
  answers_next h

theorem witness_DecodedBytesAreTheEncoding :
    decode [0xAD#8, 0x34#8, 0x12#8, 0x00#8] = .ok (.ldaAbsolute 0x1234#16, [0x00#8]) := by decide

theorem witness_OpcodeTableRowsDecode :
    ([0xF0#8, 0x05#8], Variant.branch (.relative 0x05#8) .zero true) ∈
      opcodeTableLow 0x05#8 0x34#8 0x12#8 ++ opcodeTableHigh 0x05#8 0x34#8 0x12#8 ∧
    (opcodeTableLow 0x05#8 0x34#8 0x12#8 ++ opcodeTableHigh 0x05#8 0x34#8 0x12#8).length = 70 := by
  decide

theorem witness_InvalidBytesAreRejectedByName :
    decode [0x05#8] = .error (.invalidInstructionCode 0x05#8) ∧
    (∃ r ∈ invalidRanges, r.1 ≤ (0x05#8).toNat ∧ (0x05#8).toNat ≤ r.2) ∧
    decode [0x06#8, 0x00#8] ≠ .error (.invalidInstructionCode 0x06#8) ∧
    ¬∃ r ∈ invalidRanges, r.1 ≤ (0x06#8).toNat ∧ (0x06#8).toNat ≤ r.2 := by decide

theorem witness_WellFormedVariantsAreTheInstructions :
    Variant.wellFormed (.ld .x (.mem (.zeroPageY 0x10#8))) = true ∧
    Instr.variant (.ldxZeroPageY 0x10#8) = .ld .x (.mem (.zeroPageY 0x10#8)) := by decide

theorem witness_StepRunsTheDecodedInstruction :
    ((at8000 [0xA9#8, 0xF0#8]).rs = .ready ∧
      decode (bytesAtPc (at8000 [0xA9#8, 0xF0#8])) = .ok (.ldaImmediate 0xF0#8, [0x00#8])) ∧
    (let s := start 0#8 0#8 0#8 (flags 0 0 0 0 0 0) 0xFFFF#16 [0xAD#8, 0x34#8, 0x12#8] []
     s.rs = .ready ∧ decode (bytesAtPc s) = .ok (.ldaAbsolute 0x1234#16, [])) := by decide

theorem witness_InvalidOpcodeEntersFaulted :
    (at8000 [0xEA#8]).rs = .ready ∧ ∀ i : Instr, opcode i ≠ (at8000 [0xEA#8]).mem.read 0x8000#16 :=
  ⟨by decide, fun i => by
    have h : (at8000 [0xEA#8]).mem.read 0x8000#16 = 0xEA#8 := by decide
    rw [h]
    cases i <;> simp [opcode]⟩

theorem witness_StoppedMachineKeepsItsState :
    { State.reset with rs := .halted }.rs ≠ .ready ∧
    { State.reset with rs := .faulted }.rs ≠ .ready := by decide

theorem witness_OnlyBrkHaltsAndOnlyInvalidOpcodesFault :
    ((at8000 [0x00#8]).rs = .ready ∧ step (at8000 [0x00#8]) = .next (after (at8000 [0x00#8])) ∧
      (after (at8000 [0x00#8])).rs = .halted) ∧
    ((at8000 [0xEA#8]).rs = .ready ∧ step (at8000 [0xEA#8]) = .next (after (at8000 [0xEA#8])) ∧
      (after (at8000 [0xEA#8])).rs = .faulted) ∧
    ((at8000 [0xE8#8]).rs = .ready ∧ step (at8000 [0xE8#8]) = .next (after (at8000 [0xE8#8])) ∧
      (after (at8000 [0xE8#8])).rs = .ready) :=
  ⟨⟨by decide, step_after (by decide), by decide⟩, ⟨by decide, step_after (by decide), by decide⟩,
    ⟨by decide, step_after (by decide), by decide⟩⟩

theorem witness_NonBranchAdvancesByItsLength :
    let s := start 0#8 0#8 0#8 (flags 0 0 0 0 0 0) 0xFFFE#16 [0xAD#8, 0x34#8, 0x12#8] []
    s.rs = .ready ∧ decode (bytesAtPc s) = .ok (.ldaAbsolute 0x1234#16, []) ∧
    (∀ m f b, Instr.variant (.ldaAbsolute 0x1234#16) ≠ .branch m f b) ∧ step s = .next (after s) :=
  ⟨by decide, by decide, fun _ _ _ h => (nomatch h), step_after (by decide)⟩

theorem witness_MemoryChangesOnlyByShift :
    let s := at8000 [0x06#8, 0x10#8]
    s.mem.wf = true ∧ step s = .next (after s) ∧
    (after s).mem.read 0x0010#16 ≠ s.mem.read 0x0010#16 :=
  ⟨by decide, step_after (by decide), by decide⟩

theorem witness_StackPointerAndRecordAreInert :
    let s := at8000 [0xA9#8, 0xF0#8]
    step s = .next (after s) ∧ SameButSp s { s with sp := 0x12#8 } ∧
    SameButRecord s { s with fr := some (.indexOutOfBounds 0xFFFE#16) } :=
  ⟨step_after (by decide), rfl, rfl⟩

theorem witness_InterruptAndDecimalFlagsHaveNoEffect :
    (let s := at8000 [0x58#8]
     step s = .next (after s) ∧ SameButID s { s with p := { s.p with d := false } } ∧
      (after s).p.i ≠ s.p.i ∧ s.rs = .ready ∧ s.mem.read s.pc = 0x58#8 ∧ (after s).p.d = true) ∧
    (let s := at8000 [0xD8#8]
     step s = .next (after s) ∧ (after s).p.d ≠ s.p.d ∧ s.rs = .ready ∧
      s.mem.read s.pc = 0xD8#8 ∧ (after s).p.i = true) :=
  ⟨⟨step_after (by decide), rfl, by decide, by decide, by decide, by decide⟩,
    ⟨step_after (by decide), by decide, by decide, by decide, by decide⟩⟩

theorem witness_ClearInstructionsClearOneFlag :
    (Instr.clv, Flag.overflow) ∈ clears ∧ clears.length = 4 ∧ Flag.negative ≠ .overflow := by decide

theorem witness_LoadsWriteTheEffectiveValue :
    (Instr.ldaZeroPage 0x10#8, Reg.a, 0xC0#8) ∈ loads 0xF0#8 0x10#8 0x1234#16 (at8000 []) ∧
    (Instr.ldyImmediate 0xF0#8, Reg.y, 0xF0#8) ∈ loads 0xF0#8 0x10#8 0x1234#16 (at8000 []) ∧
    (loads 0xF0#8 0x10#8 0x1234#16 (at8000 [])).length = 18 := by decide

theorem witness_AdcAddsWithCarry :
    (Instr.adcZeroPage 0x10#8, 0xC0#8) ∈ adcs 0xF0#8 0x10#8 0x1234#16 (at8000 []) ∧
    (adcs 0xF0#8 0x10#8 0x1234#16 (at8000 [])).length = 8 := by decide

theorem witness_AndMasksTheAccumulator :
    (Instr.andZeroPage 0x10#8, 0xC0#8) ∈ ands 0xF0#8 0x10#8 0x1234#16 (at8000 []) ∧
    (ands 0xF0#8 0x10#8 0x1234#16 (at8000 [])).length = 8 := by decide

theorem witness_AslShiftsLeftByOne :
    (at8000 []).mem.wf = true ∧ (Instr.aslZeroPage 0x10#8, MemMode.zeroPage 0x10#8) ∈
      shifts 0x10#8 0x1234#16 ∧ 0x0011#16 ≠ effectiveAddress (.zeroPage 0x10#8) (at8000 []) := by
  decide

theorem witness_BitTestsTheOperand :
    (Instr.bitZeroPage 0x10#8, 0xC0#8) ∈ bits 0x10#8 0x1234#16 (at8000 []) ∧
    (bits 0x10#8 0x1234#16 (at8000 [])).length = 2 := by decide

theorem witness_BranchesMoveOnlyThePc :
    (Instr.bne 0xFB#8, Flag.zero, false) ∈ branches 0xFB#8 ∧ (branches 0xFB#8).length = 8 ∧
    (at8000 []).p.get .zero = false ∧
    (Instr.bcs 0xFB#8, Flag.carry, true) ∈ branches 0xFB#8 ∧ (at8000 []).p.get .carry ≠ true := by
  decide

theorem witness_ComparesSetCarryZeroNegative :
    (Instr.cpyZeroPage 0x10#8, Reg.y, 0xC0#8) ∈ compares 0xF0#8 0x10#8 0x1234#16 (at8000 []) ∧
    (compares 0xF0#8 0x10#8 0x1234#16 (at8000 [])).length = 14 := by decide

theorem witness_ExecFrame :
    (∃ t, exec (.aslZeroPage 0x10#8) (at8000 []) = .next t) ∧
    (¬ writesReg .a (Instr.variant (.aslZeroPage 0x10#8)) ∧
      ¬ writesFlag .overflow (Instr.variant (.aslZeroPage 0x10#8)) ∧
      Instr.variant (.aslZeroPage 0x10#8) ≠ .brk ∧
      (∀ m f b, Instr.variant (.aslZeroPage 0x10#8) ≠ .branch m f b) ∧
      Instr.variant (.aslZeroPage 0x10#8) = .asl (.mem (.zeroPage 0x10#8)) ∧
      (at8000 []).mem.wf = true ∧
      0x0011#16 ≠ effectiveAddress (.zeroPage 0x10#8) (at8000 [])) ∧
    (∃ t, exec .tax (at8000 []) = .next t) ∧ ∀ m, Instr.variant .tax ≠ .asl (.mem m) :=
  ⟨⟨_, rfl⟩, ⟨nofun, nofun, by decide, fun _ _ _ h => (nomatch h), rfl, by decide, by decide⟩,
    ⟨_, rfl⟩, fun _ h => nomatch h⟩

theorem witness_ExecIsTheFamilyRule :
    ∃ t, exec .tax (at8000 []) = .next t ∧ executeVariant (Instr.variant .tax) (at8000 []) = some t :=
  ⟨_, rfl, rfl⟩

/-- 40_addressing_modes.md R76: the two ends of the signed displacement. -/
theorem witness_RelativeTargetFormula :
    relativeTarget 0x7F#8 (at8000 []) = 0x807F#16 ∧ relativeTarget 0x80#8 (at8000 []) = 0x7F80#16 ∧
    (0x7F#8).toNat ≤ 0x7F ∧ ¬ (0x80#8).toNat ≤ 0x7F := by decide

theorem witness_ModeCapabilities :
    Mode.immediate 0x10#8 = .immediate 0x10#8 ∧
    addressOf (.mem (.zeroPage 0x10#8)) (at8000 []) = some 0x0010#16 ∧
    valueOf (.mem (.zeroPage 0x10#8)) (at8000 []) = some 0xC0#8 := by decide

/-- The word access at the top of memory, and a third cell that is neither of its two. -/
theorem witness_WordAccessesAreLittleEndianAndWrap :
    (at8000 []).mem.wf = true ∧ 0x0001#16 ≠ 0xFFFF#16 ∧
    (0x0001#16).toNat ≠ ((0xFFFF#16).toNat + 1) % 65536 := by decide

/-- A slice that ends at the top of memory, one that is one byte too long, and the empty slice. -/
theorem witness_LoadCopiesTheBytes :
    (at8000 []).mem.wf = true ∧ (0xFFFE#16).toNat + [0x01#8, 0x02#8].length ≤ 65536 ∧
    1 < [0x01#8, 0x02#8].length ∧
    (0xFFFD#16).toNat < (0xFFFE#16).toNat ∧
    (0x8000#16).toNat + [0x01#8, 0x02#8].length ≤ (0x8002#16).toNat ∧
    [0x01#8, 0x02#8] = 0x01#8 :: 0x02#8 :: ([] : List Byte) ∧
    (hostLoad 0xFFFE#16 [0x01#8, 0x02#8, 0x03#8] State.reset).2 = some (.indexOutOfBounds 0xFFFE#16) ∧
    65536 < (0xFFFE#16).toNat + [0x01#8, 0x02#8, 0x03#8].length ∧
    (0xFFFF#16).toNat + ([] : List Byte).length ≤ 65536 := by decide

/-- MEM-9: one byte more than fits from `PROGRAM_BASE`. -/
def oversized : List Byte := List.replicate 32769 0x00#8

theorem oversized_length : oversized.length = 32769 := List.length_replicate

theorem witness_LoadOutOfBoundsIsRecorded :
    65536 < (0xFFFE#16).toNat + [0x01#8, 0x02#8, 0x03#8].length ∧ 32768 < oversized.length :=
  ⟨by decide, oversized_length ▸ by decide⟩

theorem witness_CanonicalMemoriesThatReadTheSameAreEqual :
    Memory.wf ((Memory.write [] 0x0200#16 0x05#8).write 0x0010#16 0x06#8) = true ∧
    Memory.wf ((Memory.write [] 0x0010#16 0x06#8).write 0x0200#16 0x05#8) = true ∧
    ∀ b : Word, ((Memory.write [] 0x0200#16 0x05#8).write 0x0010#16 0x06#8).read b =
      ((Memory.write [] 0x0010#16 0x06#8).write 0x0200#16 0x05#8).read b := by
  have h : (Memory.write [] 0x0200#16 0x05#8).write 0x0010#16 0x06#8 =
      (Memory.write [] 0x0010#16 0x06#8).write 0x0200#16 0x05#8 := by decide
  exact ⟨by decide, by decide, fun b => by rw [h]⟩

theorem witness_HostWritesTouchOnlyTheirTarget :
    Reg.x ≠ .a ∧ Flag.zero ≠ .carry ∧ (at8000 []).mem.wf = true ∧ 0x0001#16 ≠ 0x0000#16 := by decide

theorem witness_StepKeepsSafeInvariant :
    let s := at8000 [0xEA#8]
    s.Inv ∧ step s = .next (after s) ∧ s.rs = .ready ∧ (after s).rs = .faulted :=
  ⟨by decide, step_after (by decide), by decide, by decide⟩

theorem witness_HostOperationsKeepSafeInvariant :
    let s : State := { at8000 [] with rs := .faulted, fr := some (.indexOutOfBounds 0xFFFE#16) }
    s.Inv ∧ (HostOp.write 0x0010#16 0x00#8).apply s = .next (s.store 0x0010#16 0x00#8) :=
  ⟨by decide, rfl⟩

theorem witness_OnlyResetLeavesStoppedStates :
    let s : State := { State.reset with rs := .halted }
    s.rs ≠ .ready ∧ HostOp.reset.apply s = .next s.applyReset ∧ s.applyReset.rs ≠ s.rs :=
  ⟨by decide, rfl, by decide⟩

theorem witness_ResetWithoutVectorEntersAtZero :
    (at8000 []).mem.read 0xFFFC#16 = 0x00#8 ∧ (at8000 []).mem.read 0xFFFD#16 = 0x00#8 := by decide

theorem witness_FinishedRunIsUnchangedByMoreFuel :
    run 1 State.reset = .next { State.reset with pc := 0x0001#16, rs := .halted } ∧
    { State.reset with pc := 0x0001#16, rs := .halted }.rs ≠ .ready :=
  ⟨answers_next (by decide), by decide⟩

theorem witness_LoadAndRunOfAnOversizedProgramDoesNotRun : 32768 < oversized.length :=
  oversized_length ▸ by decide

theorem witness_LoadAndRunWithoutVectorHaltsAtOnce :
    [0xA9#8, 0xF0#8, 0x00#8].length ≤ 32764 ∧ (List.replicate 32764 0xE8#8).length ≤ 32764 :=
  ⟨by decide, List.length_replicate.le⟩

theorem witness_PlacedWordIsTheOneThatRuns :
    State.reset.mem.wf = true ∧ decodeTableWord 16 0xF0A9 = some (.ldaImmediate 0xF0#8) := by decide

theorem witness_OnePrivilegeModePermitsEveryInstruction :
    step (at8000 [0xE8#8]) = .next (after (at8000 [0xE8#8])) := step_after (by decide)

end Sys2Proof.Tests
end

section
/-! The status register: its get and set laws (10_state.md R17) and the packed byte bit by bit (R15). -/

namespace Sys2Proof.Machine

@[simp] theorem Status.get_set_same (p : Status) (f : Flag) (b : Bool) : (p.set f b).get f = b := by
  cases f <;> rfl

theorem Status.get_set_of_ne (p : Status) {f g : Flag} (b : Bool) (h : g ≠ f) :
    (p.set f b).get g = p.get g := by
  cases f <;> cases g <;> simp at h ⊢

theorem Status.get_set (p : Status) (f g : Flag) (b : Bool) :
    (p.set f b).get g = if g = f then b else p.get g := by
  split
  case isTrue h => rw [h, get_set_same]
  case isFalse h => exact get_set_of_ne p b h

@[simp] theorem Status.get_clear (f : Flag) : Status.clear.get f = false := by
  cases f <;> rfl

/-- The bits of the packed byte from bit 0 up, as the table of R15 lists them. -/
def Status.bits (p : Status) : List Bool :=
  [p.c, p.z, p.i, p.d, false, false, p.v, p.n]

theorem Status.length_bits (p : Status) : p.bits.length = 8 := rfl

theorem toNat_ofBoolListLE_nil : (BitVec.ofBoolListLE []).toNat = 0 := rfl

theorem toNat_ofBoolListLE_cons (b : Bool) (bs : List Bool) :
    (BitVec.ofBoolListLE (b :: bs)).toNat = (BitVec.ofBoolListLE bs).toNat * 2 + b.toNat :=
  BitVec.toNat_concat _ b

/-- The weighted sum of `packed` is the binary value of the bits of R15. -/
theorem Status.packed_eq_ofBoolListLE (p : Status) :
    p.packed = (BitVec.ofBoolListLE p.bits).cast p.length_bits := by
  apply BitVec.eq_of_toNat_eq
  have hn := p.n.toNat_le
  have hv := p.v.toNat_le
  have hd := p.d.toNat_le
  have hi := p.i.toNat_le
  have hz := p.z.toNat_le
  have hc := p.c.toNat_le
  rw [packed, BitVec.toNat_ofNat, BitVec.toNat_cast, bits]
  simp only [toNat_ofBoolListLE_cons, toNat_ofBoolListLE_nil, Bool.toNat_false]
  omega

theorem Status.getLsbD_packed (p : Status) (k : Nat) :
    p.packed.getLsbD k = p.bits.getD k false := by
  rw [packed_eq_ofBoolListLE, BitVec.getLsbD_cast, BitVec.getLsbD_ofBoolListLE]

end Sys2Proof.Machine

open Sys2Proof.Machine

/-- Settles O33: the get-after-set law, and the status after a reset is the clear one. -/
theorem flagSetAndGet : Obligations.FlagSetAndGet := by
  intro s f g b
  exact ⟨Status.get_set s.p f g b, by rw [State.applyReset_p, Status.get_clear]⟩

/-- Settles O34: each bit of the packed byte is the entry of `Status.bits` at its position. -/
theorem packedStatusLayout : Obligations.PackedStatusLayout := by
  intro p
  simp only [Status.getLsbD_packed]
  exact ⟨rfl, rfl, rfl, rfl, rfl, rfl, rfl, rfl⟩

end

section
/-! The word accessors (20_memory.md R32, R33) and the bulk load (R35): what each read returns after
them. A read after a copy depends on the distance of the address from the start of the slice, taken
modulo 65 536, so that one law covers the copied cells and the cells outside. -/

namespace Sys2Proof.Forms

open Sys2Proof.Machine

theorem cell_toNat (s : State) (a : Word) : cell s a.toNat = (s.mem.read a).toNat := by
  rw [cell, BitVec.ofNat_toNat, BitVec.setWidth_eq]

theorem cell_add_mod (s : State) (a : Word) (i : Nat) :
    cell s ((a.toNat + i) % 65536) = (s.mem.read (a + BitVec.ofNat 16 i)).toNat := by
  have haddr : (a.toNat + i) % 65536 = (a + BitVec.ofNat 16 i).toNat := by
    rw [BitVec.toNat_add, BitVec.toNat_ofNat, Nat.add_mod_mod]
  rw [haddr, cell_toNat]

end Sys2Proof.Forms

namespace Sys2Proof.Machine

/-! ### Word accesses -/

theorem Memory.readU16_toNat (m : Memory) (a : Word) :
    (m.readU16 a).toNat = (m.read a).toNat + 256 * (m.read (a + 1#16)).toNat :=
  joinBytes_toNat _ _

theorem Memory.read_writeU16 {m : Memory} (h : m.wf = true) (a w b : Word) :
    (m.writeU16 a w).read b =
      if b = a + 1#16 then highByte w else if b = a then lowByte w else m.read b := by
  rw [writeU16, read_write (write_wf h _ _), read_write h]

theorem Memory.read_writeU16_low {m : Memory} (h : m.wf = true) (a w : Word) :
    (m.writeU16 a w).read a = lowByte w := by
  have hne : a ≠ a + 1#16 := by simp
  rw [read_writeU16 h, if_neg hne, if_pos rfl]

theorem Memory.read_writeU16_high {m : Memory} (h : m.wf = true) (a w : Word) :
    (m.writeU16 a w).read (a + 1#16) = highByte w := by
  rw [read_writeU16 h, if_pos rfl]

theorem Memory.read_writeU16_of_ne {m : Memory} (h : m.wf = true) {a w b : Word}
    (hlow : b ≠ a) (hhigh : b ≠ a + 1#16) : (m.writeU16 a w).read b = m.read b := by
  rw [read_writeU16 h, if_neg hhigh, if_neg hlow]

/-- The round trip of R33. -/
theorem Memory.readU16_writeU16 {m : Memory} (h : m.wf = true) (a w : Word) :
    (m.writeU16 a w).readU16 a = w := by
  rw [readU16, read_writeU16_low h, read_writeU16_high h, joinBytes_high_low]

/-! ### The bulk load -/

/-- A cell holds the copied byte at its distance from `addr`, or its old byte when no byte lies there. -/
theorem Memory.read_copy {m : Memory} (h : m.wf = true) (addr b : Word) (bytes : List Byte)
    (hlen : bytes.length ≤ 65536) :
    (m.copy addr bytes).read b = bytes.getD (b - addr).toNat (m.read b) := by
  induction bytes generalizing m addr with
  | nil => rfl
  | cons v rest ih =>
    rw [List.length_cons] at hlen
    rw [copy, ih (write_wf h _ _) _ (by omega), read_write h]
    by_cases hb : b = addr
    case pos =>
      -- The rest begins one cell higher: it would have to wrap all the way round to reach `addr`.
      have hfar : rest.length ≤ (b - (addr + 1#16)).toNat := by subst hb; bv_omega
      have hzero : (b - addr).toNat = 0 := by bv_omega
      rw [if_pos hb, List.getD_eq_default _ _ hfar, hzero, List.getD_cons_zero]
    case neg =>
      have hsucc : (b - addr).toNat = (b - (addr + 1#16)).toNat + 1 := by bv_omega
      rw [if_neg hb, hsucc, List.getD_cons_succ]

theorem Memory.read_copy_add {m : Memory} (h : m.wf = true) (addr : Word) (bytes : List Byte)
    (hlen : bytes.length ≤ 65536) (i : Nat) (hi : i < bytes.length) :
    (m.copy addr bytes).read (addr + BitVec.ofNat 16 i) = bytes[i] := by
  have hdist : (addr + BitVec.ofNat 16 i - addr).toNat = i := by
    rw [add_sub_cancel_left, BitVec.toNat_ofNat]
    omega
  rw [read_copy h _ _ _ hlen, hdist, List.getD_eq_getElem _ _ hi]

theorem Memory.read_copy_outside {m : Memory} (h : m.wf = true) {addr b : Word} {bytes : List Byte}
    (hfit : addr.toNat + bytes.length ≤ 65536)
    (hout : b.toNat < addr.toNat ∨ addr.toNat + bytes.length ≤ b.toNat) :
    (m.copy addr bytes).read b = m.read b := by
  have hfar : bytes.length ≤ (b - addr).toNat := by
    rw [BitVec.toNat_sub]
    omega
  rw [read_copy h _ _ _ (by omega), List.getD_eq_default _ _ hfar]

/-- The word that `read_u16` finds at the start of a copied slice (R35). -/
theorem Memory.readU16_copy {m : Memory} (h : m.wf = true) (addr : Word) (b0 b1 : Byte)
    (rest : List Byte) (hlen : (b0 :: b1 :: rest).length ≤ 65536) :
    (m.copy addr (b0 :: b1 :: rest)).readU16 addr = joinBytes b1 b0 := by
  have hlow := read_copy_add h addr _ hlen 0 (by simp)
  have hhigh := read_copy_add h addr _ hlen 1 (by simp)
  rw [BitVec.add_zero] at hlow
  rw [readU16, hlow, hhigh]
  rfl

theorem hostLoad_of_fits {addr : Word} {bytes : List Byte} (s : State)
    (hfit : addr.toNat + bytes.length ≤ 65536) :
    hostLoad addr bytes s = ({ s with mem := s.mem.copy addr bytes }, none) :=
  if_pos hfit

theorem hostLoad_of_not_fits {addr : Word} {bytes : List Byte} (s : State)
    (hover : 65536 < addr.toNat + bytes.length) :
    hostLoad addr bytes s =
      ({ s with fr := some (.indexOutOfBounds addr) }, some (.indexOutOfBounds addr)) :=
  if_neg (Nat.not_le.mpr hover)

theorem hostLoad_indexOutOfBounds_iff (addr : Word) (bytes : List Byte) (s : State) :
    (∃ e, (hostLoad addr bytes s).2 = some (.indexOutOfBounds e)) ↔
      65536 < addr.toNat + bytes.length := by
  constructor
  · rintro ⟨e, herr⟩
    by_contra hfit
    rw [hostLoad_of_fits s (Nat.not_lt.mp hfit)] at herr
    cases herr
  · intro hover
    exact ⟨addr, by rw [hostLoad_of_not_fits s hover]⟩

end Sys2Proof.Machine

open Sys2Proof Sys2Proof.Machine Sys2Proof.Forms

/-- Settles O35: both cells of the word are read back after `write_u16`, and no third cell changes. -/
theorem wordAccessesAreLittleEndianAndWrap : Obligations.WordAccessesAreLittleEndianAndWrap := by
  intro s a w h
  refine ⟨?_, s.storeU16 a w, rfl, Memory.readU16_writeU16 h a w, ?_, ?_, ?_, rfl⟩
  · rw [Memory.readU16_toNat, cell_toNat, cell_add_mod]
  · rw [cell_toNat, State.storeU16_mem, Memory.read_writeU16_low h, lowByte_toNat]
  · rw [cell_add_mod, State.storeU16_mem, Memory.read_writeU16_high h, highByte_toNat]
  · intro b hlow hhigh
    have hne : b ≠ a + 1#16 := by
      rintro rfl
      exact hhigh (BitVec.toNat_add a 1#16)
    exact Memory.read_writeU16_of_ne h hlow hne

/-- Settles O36: `load` fails exactly when the slice does not fit, and otherwise it is the copy. -/
theorem loadCopiesTheBytes : Obligations.LoadCopiesTheBytes := by
  intro s addr bytes h
  refine ⟨hostLoad_indexOutOfBounds_iff addr bytes s, fun hfit => ?_⟩
  have hlen : bytes.length ≤ 65536 := by omega
  refine ⟨_, hostLoad_of_fits s hfit, ?_, ?_, ?_, ?_, rfl⟩
  · intro i hi
    have hin : addr.toNat + i < 65536 := by omega
    rw [← Nat.mod_eq_of_lt hin, cell_add_mod, Memory.read_copy_add h addr bytes hlen i hi]
  · intro b hout
    exact Memory.read_copy_outside h hfit hout
  · rintro b0 b1 rest rfl
    rw [Memory.readU16_copy h addr b0 b1 rest hlen, joinBytes_toNat]
    omega
  · rintro rfl
    rfl

end

section
/-! The addressing modes (40_addressing_modes.md): their additions and the pointer fetch (R83) in integer
arithmetic, with the wrap of each width. -/

namespace Sys2Proof.Machine

/-- The index of the absolute modes and of IndirectY carries into the high byte and wraps at 16 bits. -/
theorem add_zext16_toNat (w : Word) (b : Byte) :
    (w + zext16 b).toNat = (w.toNat + b.toNat) % 65536 := by
  rw [BitVec.toNat_add, zext16_toNat]

/-- An offset byte in two's complement, with the bound of R76 on its two halves. -/
theorem byte_toInt (off : Byte) :
    off.toInt = if off.toNat ≤ 0x7F then (off.toNat : Int) else (off.toNat : Int) - 256 := by
  rw [BitVec.toInt_eq_toNat_cond]
  split <;> split <;> omega

/-- Adding a word is adding its signed value, modulo 65 536. -/
theorem add_toNat_of_toInt (v w : Word) :
    ((v + w).toNat : Int) = ((v.toNat : Int) + w.toInt) % 65536 := by
  rw [BitVec.toNat_add, BitVec.toInt_eq_toNat_cond]
  split <;> omega

theorem relativeTarget_toNat (off : Byte) (s : State) :
    ((relativeTarget off s).toNat : Int) = ((s.pc.toNat : Int) + off.toInt) % 65536 := by
  rw [relativeTarget, add_toNat_of_toInt, sext16_toInt]

/-! ### What each mode yields (R70) -/

theorem addressOf_isSome_iff (mode : Mode) (s : State) :
    (addressOf mode s).isSome = true ↔ mode ≠ .accumulator ∧ ∀ imm, mode ≠ .immediate imm := by
  cases mode <;> simp [addressOf]

theorem valueOf_isSome_iff (mode : Mode) (s : State) :
    (valueOf mode s).isSome = true ↔ mode ≠ .accumulator ∧ ∀ off, mode ≠ .relative off := by
  cases mode <;> simp [valueOf]

/-- R82. Only a memory mode has both an address and a value. -/
theorem valueOf_eq_read_addressOf {mode : Mode} {s : State} {ea : Word} {v : Byte}
    (haddr : addressOf mode s = some ea) (hval : valueOf mode s = some v) : v = s.mem.read ea := by
  cases mode with
  | accumulator => cases haddr
  | immediate imm => cases haddr
  | relative off => cases hval
  | mem m =>
    cases haddr
    cases hval
    rfl

end Sys2Proof.Machine

namespace Sys2Proof.Forms

open Sys2Proof.Machine

theorem cell_zeroPage (s : State) (p : Byte) : cell s p.toNat = (s.mem.read (zext16 p)).toNat := by
  rw [← zext16_toNat, cell_toNat]

/-- R83: both bytes of a pointer lie in page zero, so the one at 0xFF has its high byte at 0x00. -/
theorem readPointer_toNat (s : State) (p : Byte) :
    (s.mem.readPointer p).toNat = cell s p.toNat + 256 * cell s ((p.toNat + 1) % 256) := by
  have hnext : (p.toNat + 1) % 256 = (p + 1#8).toNat := (BitVec.toNat_add p 1#8).symm
  rw [hnext, cell_zeroPage, cell_zeroPage]
  exact joinBytes_toNat _ _

end Sys2Proof.Forms

open Sys2Proof Sys2Proof.Machine Sys2Proof.Forms

/-- Settles O30: an 8-bit sum for the zero-page indices, also where IndirectX adds its index before the
fetch; a 16-bit sum for the absolute ones and for IndirectY, which adds its index after it. -/
theorem effectiveAddressFormulas : Obligations.EffectiveAddressFormulas := by
  intro s a w
  refine ⟨zext16_toNat a, ?zeroPageX, ?zeroPageY, rfl, add_zext16_toNat w s.x, add_zext16_toNat w s.y,
    ?indirectX, ?indirectY, fun m => (cell_toNat s (effectiveAddress m s)).symm⟩
  case zeroPageX => rw [effectiveAddress, zext16_toNat, BitVec.toNat_add]
  case zeroPageY => rw [effectiveAddress, zext16_toNat, BitVec.toNat_add]
  case indirectX => rw [effectiveAddress, readPointer_toNat, BitVec.toNat_add]
  case indirectY => rw [effectiveAddress, add_zext16_toNat, readPointer_toNat]

/-- Settles O31: the sign-extended offset adds its two's complement value. -/
theorem relativeTargetFormula : Obligations.RelativeTargetFormula := by
  intro s off
  refine ⟨?_, rfl, rfl⟩
  rw [relativeTarget_toNat, byte_toInt]

/-- Settles O32: the capability table of R70, the byte of Immediate, and the value rule of R82. -/
theorem modeCapabilities : Obligations.ModeCapabilities := by
  intro s mode
  refine ⟨addressOf_isSome_iff mode s, valueOf_isSome_iff mode s, ?_,
    fun _ _ => valueOf_eq_read_addressOf⟩
  rintro imm rfl
  rfl

end

section
/-! Loads (42_load_transfer_increment.md R100): what `load` writes and what it leaves unchanged, and that
each Ld form is that one operation. -/

namespace Sys2Proof.Machine

@[simp] theorem State.reg_setReg_same (s : State) (r : Reg) (v : Byte) : (s.setReg r v).reg r = v := by
  cases r <;> rfl

theorem State.reg_setReg_of_ne (s : State) {r r' : Reg} (v : Byte) (h : r' ≠ r) :
    (s.setReg r v).reg r' = s.reg r' := by
  cases r <;> cases r' <;> simp [reg, setReg] at h ⊢

@[simp] theorem State.reg_setZN (s : State) (v : Byte) (r : Reg) : (s.setZN v).reg r = s.reg r := by
  cases r <;> rfl

theorem load_reg_same (dest : Reg) (v : Byte) (s : State) : (load dest v s).reg dest = v := by
  rw [load, State.reg_setZN, State.reg_setReg_same]

theorem load_reg_of_ne {dest r : Reg} (v : Byte) (s : State) (h : r ≠ dest) :
    (load dest v s).reg r = s.reg r := by
  rw [load, State.reg_setZN, State.reg_setReg_of_ne s v h]

/-- Only the registers, Z and N can differ after a load. -/
theorem load_frame (dest : Reg) (v : Byte) (s : State) :
    load dest v s =
      { s with
        a := (load dest v s).a, x := (load dest v s).x, y := (load dest v s).y
        p := { s.p with z := (load dest v s).p.z, n := (load dest v s).p.n } } := by
  cases dest with
  | a => rw [load_a_eq]
  | x => rw [load_x_eq]
  | y => rw [load_y_eq]

@[simp] theorem load_mem (dest : Reg) (v : Byte) (s : State) : (load dest v s).mem = s.mem := by
  rw [load, State.setZN_mem, State.setReg_mem]

end Sys2Proof.Machine

namespace Sys2Proof.Forms

open Sys2Proof.Machine

theorem isZero_iff (r : Byte) : isZero r = true ↔ r.toNat = 0 := by
  rw [isZero_eq, decide_eq_true_iff, ← BitVec.toNat_inj, BitVec.toNat_ofNat, Nat.zero_mod]

theorem bit7_iff (r : Byte) : bit7 r = true ↔ 128 ≤ r.toNat := by
  rw [bit7_eq, decide_eq_true_iff]

/-- R18: whatever Z and N held before, `SetZN(r)` makes them describe `r`. -/
theorem znDescribe_setZN (s : State) (r : Byte) : ZNDescribe (s.setZN r).p r :=
  ⟨isZero_iff r, bit7_iff r⟩

/-- Each of the 18 rows: the arm of `exec` loads the row's value into the row's register. -/
theorem exec_of_mem_loads {imm a : Byte} {w : Word} {s : State} {f : Instr × Reg × Byte}
    (hf : f ∈ loads imm a w s) : exec f.1 s = .next (load f.2.1 f.2.2 s) := by
  unfold loads at hf
  fin_cases hf <;> rfl

end Sys2Proof.Forms

open Sys2Proof Sys2Proof.Machine Sys2Proof.Forms

/-- Settles O18: every Ld form is `load`, whose register, flags and frame are known. -/
theorem loadsWriteTheEffectiveValue : Obligations.LoadsWriteTheEffectiveValue := by
  intro s imm a w f hf
  obtain ⟨i, dest, v⟩ := f
  exact ⟨load dest v s, exec_of_mem_loads hf, load_reg_same dest v s, fun _ => load_reg_of_ne v s,
    znDescribe_setZN (s.setReg dest v) v, load_frame dest v s, fun b => by rw [load_mem]⟩

end

section
/-! Arithmetic and logic (43_arithmetic_logic.md): the flag computations of ADC, ASL and BIT in plain
arithmetic, and that each form of the four families is its one shared operation. -/

namespace Sys2Proof.Machine

/-! ### The flags of ADC (R130) -/

theorem adcCarry_iff (acc m : Byte) (c : Bool) :
    adcCarry acc m c = true ↔ 255 < acc.toNat + m.toNat + c.toNat := by
  rw [adcCarry, decide_eq_true_iff, adcSum]

theorem adcOverflow_iff (acc m : Byte) (c : Bool) :
    adcOverflow acc m c = true ↔
      acc.toInt + m.toInt + (c.toNat : Int) < -128 ∨ 127 < acc.toInt + m.toInt + (c.toNat : Int) := by
  rw [adcOverflow, decide_eq_true_iff, adcSignedSum]

theorem and_0x80_ne_zero_iff (r : Byte) : r &&& 0x80#8 ≠ 0x00#8 ↔ bit7 r = true := by
  have hmask : 0x80#8 = BitVec.twoPow 8 7 := rfl
  rw [hmask, BitVec.and_twoPow, bit7]
  cases r.getLsbD 7 with
  | false => decide
  | true => decide

/-- The sum overflows exactly when both addends have the sign that the result has not. -/
theorem adcOverflow_iff_bit7 (acc m : Byte) (c : Bool) :
    adcOverflow acc m c = true ↔
      bit7 acc ≠ bit7 (adcResult acc m c) ∧ bit7 m ≠ bit7 (adcResult acc m c) := by
  have hacc := acc.isLt
  have hm := m.isLt
  have hc := c.toNat_le
  rw [adcOverflow_iff, byte_toInt, byte_toInt, bit7_eq, bit7_eq, bit7_eq, adcResult_toNat, ne_eq, ne_eq,
    decide_eq_decide, decide_eq_decide]
  split <;> split <;> omega

/-- The sign-bit form that R130 gives of the overflow condition. -/
theorem adcOverflow_iff_mask (acc m : Byte) (c : Bool) :
    adcOverflow acc m c = true ↔
      (acc ^^^ adcResult acc m c) &&& (m ^^^ adcResult acc m c) &&& 0x80#8 ≠ 0x00#8 := by
  rw [adcOverflow_iff_bit7, and_0x80_ne_zero_iff]
  simp [bit7]

/-! ### The flags of BIT (R154) -/

theorem bit6_iff (r : Byte) : bit6 r = true ↔ 64 ≤ r.toNat % 128 := by
  rw [bit6_eq, decide_eq_true_iff]
  omega

/-! ### ASL (R148) -/

theorem aslResult_toNat_two_mul (b : Byte) : (aslResult b).toNat = 2 * b.toNat % 256 := by
  rw [aslResult_toNat, Nat.mul_comm]

theorem shiftMemory_read_same {s : State} (h : s.mem.wf = true) (ea : Word) :
    (shiftMemory ea s).mem.read ea = aslResult (s.mem.read ea) := by
  rw [shiftMemory_eq, Memory.read_write h, if_pos rfl]

theorem shiftMemory_read_of_ne {s : State} (h : s.mem.wf = true) {ea b : Word} (hne : b ≠ ea) :
    (shiftMemory ea s).mem.read b = s.mem.read b := by
  rw [shiftMemory_eq, Memory.read_write h, if_neg hne]

end Sys2Proof.Machine

namespace Sys2Proof.Forms

open Sys2Proof.Machine

theorem isZero_and_iff (r m : Byte) :
    isZero (r &&& m) = true ↔
      ∀ k : Nat, ¬(r.toNat.testBit k = true ∧ m.toNat.testBit k = true) := by
  rw [isZero_iff, BitVec.toNat_and]
  constructor
  · intro hzero k hboth
    rw [← Bool.and_eq_true, ← Nat.testBit_and, hzero, Nat.zero_testBit] at hboth
    cases hboth
  · intro hnone
    apply Nat.zero_of_testBit_eq_false
    intro k
    rw [Nat.testBit_and, ← Bool.not_eq_true, Bool.and_eq_true]
    exact hnone k

/-! ### Every form is its family's operation -/

theorem exec_of_mem_adcs {imm a : Byte} {w : Word} {s : State} {f : Instr × Byte}
    (hf : f ∈ adcs imm a w s) : exec f.1 s = .next (addWithCarry f.2 s) := by
  unfold adcs at hf
  fin_cases hf <;> rfl

theorem exec_of_mem_ands {imm a : Byte} {w : Word} {s : State} {f : Instr × Byte}
    (hf : f ∈ ands imm a w s) : exec f.1 s = .next (andAccumulator f.2 s) := by
  unfold ands at hf
  fin_cases hf <;> rfl

theorem exec_of_mem_shifts {a : Byte} {w : Word} {f : Instr × MemMode} (hf : f ∈ shifts a w)
    (s : State) : exec f.1 s = .next (shiftMemory (effectiveAddress f.2 s) s) := by
  unfold shifts at hf
  fin_cases hf <;> rfl

theorem exec_of_mem_bits {a : Byte} {w : Word} {s : State} {f : Instr × Byte}
    (hf : f ∈ bits a w s) : exec f.1 s = .next (bitTest f.2 s) := by
  unfold bits at hf
  fin_cases hf <;> rfl

end Sys2Proof.Forms

open Sys2Proof Sys2Proof.Machine Sys2Proof.Forms

/-- Settles O22: every ADC form is `addWithCarry`, whose overflow has the two readings of R130. -/
theorem adcAddsWithCarry : Obligations.AdcAddsWithCarry := by
  intro s imm a w f hf
  refine ⟨addWithCarry f.2 s, exec_of_mem_adcs hf, ?_⟩
  rw [addWithCarry_eq]
  exact ⟨adcResult_toNat _ _ _, adcCarry_iff _ _ _, adcOverflow_iff _ _ _, adcOverflow_iff_mask _ _ _,
    ⟨isZero_iff _, bit7_iff _⟩, rfl, fun _ => rfl⟩

/-- Settles O23: every AND form is `andAccumulator`, and a bit of the conjunction is that of both. -/
theorem andMasksTheAccumulator : Obligations.AndMasksTheAccumulator := by
  intro s imm a w f hf
  refine ⟨andAccumulator f.2 s, exec_of_mem_ands hf, ?_⟩
  rw [andAccumulator_eq]
  refine ⟨fun k => ?_, ⟨isZero_iff _, bit7_iff _⟩, rfl, fun _ => rfl⟩
  rw [BitVec.toNat_and, Nat.testBit_and]

/-- Settles O24: ASL A rewrites A, and a memory form rewrites the byte at its effective address. -/
theorem aslShiftsLeftByOne : Obligations.AslShiftsLeftByOne := by
  intro s a w
  refine ⟨⟨shiftAccumulator s, rfl, ?accumulator⟩, fun f hf hwf => ?memory⟩
  case accumulator =>
    rw [shiftAccumulator_eq]
    exact ⟨aslResult_toNat_two_mul _, bit7_iff _, ⟨isZero_iff _, bit7_iff _⟩, rfl, fun _ => rfl⟩
  case memory =>
    refine ⟨_, exec_of_mem_shifts hf s, ?_, fun b => shiftMemory_read_of_ne hwf, bit7_iff _, ?_, rfl⟩
    · rw [shiftMemory_read_same hwf, aslResult_toNat_two_mul]
    · rw [shiftMemory_read_same hwf]
      exact ⟨isZero_iff _, bit7_iff _⟩

/-- Settles O25: both BIT forms are `bitTest`; the conjunction is zero when A and the operand share no bit. -/
theorem bitTestsTheOperand : Obligations.BitTestsTheOperand := by
  intro s a w f hf
  refine ⟨bitTest f.2 s, exec_of_mem_bits hf, ?_⟩
  rw [bitTest_eq]
  exact ⟨bit7_iff _, bit6_iff _, isZero_and_iff _ _, rfl, fun _ => rfl⟩

end

section
/-! Compare instructions (45_compare.md): the flags of `compareWith` in plain arithmetic, and that each Cmp
form is that one operation. -/

namespace Sys2Proof.Machine

theorem compareCarry_iff (r m : Byte) : compareCarry r m = true ↔ m.toNat ≤ r.toNat := by
  rw [compareCarry, decide_eq_true_iff]

/-- A difference modulo 256 is zero only when the two bytes are equal. -/
theorem isZero_compareDifference_iff (r m : Byte) :
    isZero (compareDifference r m) = true ↔ r = m := by
  rw [isZero_eq, decide_eq_true_iff, compareDifference]
  exact sub_eq_zero

end Sys2Proof.Machine

namespace Sys2Proof.Forms

open Sys2Proof.Machine

theorem bit7_compareDifference_iff (r m : Byte) :
    bit7 (compareDifference r m) = true ↔ 128 ≤ (r.toNat + 256 - m.toNat) % 256 := by
  have hm : m.toNat ≤ 256 := m.isLt.le
  rw [bit7_iff, compareDifference_toNat, Nat.add_sub_assoc hm r.toNat]

/-- Each of the 14 rows: the arm of `exec` compares the row's own register (R170) with the row's value. -/
theorem exec_of_mem_compares {imm a : Byte} {w : Word} {s : State} {f : Instr × Reg × Byte}
    (hf : f ∈ compares imm a w s) : exec f.1 s = .next (compareWith f.2.1 f.2.2 s) := by
  unfold compares at hf
  fin_cases hf <;> rfl

end Sys2Proof.Forms

open Sys2Proof Sys2Proof.Machine Sys2Proof.Forms

/-- Settles O27: every Cmp form is `compareWith`, whose flags describe the difference of the two bytes. -/
theorem comparesSetCarryZeroNegative : Obligations.ComparesSetCarryZeroNegative := by
  intro s imm a w f hf
  refine ⟨compareWith f.2.1 f.2.2 s, exec_of_mem_compares hf, ?_⟩
  rw [compareWith_eq]
  exact ⟨compareCarry_iff _ _, isZero_compareDifference_iff _ _, bit7_compareDifference_iff _ _, rfl,
    fun _ => rfl⟩

end

section
/-! The decoder and the encoder (30_encoding.md): each instruction against its row of the opcode map, each
row against the instructions it builds, and what `formatOf` says of an opcode byte. -/

namespace Sys2Proof

/-! ### From the instruction to its row -/

theorem decode_cons_of_row {b : Byte} {f : Format} (h : formatOf b = some f) (ops : List Byte) :
    decode (b :: ops) = completeFormat b f ops := by
  simp only [decode, h]

theorem decode_cons_of_no_row {b : Byte} (h : formatOf b = none) (ops : List Byte) :
    decode (b :: ops) = .error (.invalidInstructionCode b) := by
  simp only [decode, h]

/-- The row found under an instruction's opcode rebuilds that instruction from its operand bytes; a word
operand comes back from its two bytes (R53). -/
theorem exists_format (i : Instr) :
    ∃ f, formatOf (opcode i) = some f ∧
      ∀ rest, completeFormat (opcode i) f (operands i ++ rest) = .ok (i, rest) := by
  cases i <;> refine ⟨_, rfl, fun rest => ?_⟩ <;> simp [completeFormat, operands, wordBytes]

theorem decode_encode_append (i : Instr) (rest : List Byte) :
    decode (encode i ++ rest) = .ok (i, rest) := by
  obtain ⟨f, hrow, hbuild⟩ := exists_format i
  rw [encode, List.cons_append, decode_cons_of_row hrow, hbuild rest]

theorem encode_length (i : Instr) : (encode i).length = i.length := by
  cases i <;> rfl

theorem operands_length_le (i : Instr) : (operands i).length ≤ 2 := by
  cases i <;> simp [operands, wordBytes]

theorem Instr.one_le_length (i : Instr) : 1 ≤ i.length := by
  rw [← encode_length, encode, List.length_cons]
  exact Nat.le_add_left _ _

theorem Instr.length_le_three (i : Instr) : i.length ≤ 3 := by
  rw [← encode_length, encode, List.length_cons]
  exact Nat.succ_le_succ (operands_length_le i)

/-! ### From the row to the instructions it builds -/

/-- Every instruction that a row builds is encoded as the row's opcode and the operand bytes of its format. -/
inductive RowEncodes : Byte × Format → Prop
  | f1 {b : Byte} {i : Instr} (h : encode i = [b]) : RowEncodes (b, .f1 i)
  | f2 {b : Byte} {build : Byte → Instr} (h : ∀ v, encode (build v) = [b, v]) :
    RowEncodes (b, .f2 build)
  | f3 {b : Byte} {build : Word → Instr} (h : ∀ w, encode (build w) = b :: wordBytes w) :
    RowEncodes (b, .f3 build)

theorem rowEncodes_of_mem {row : Byte × Format} (h : row ∈ opcodeMap) : RowEncodes row := by
  unfold opcodeMap breakClearRows loadRows adcAndRows aslBitRows branchRows compareRows at h
  fin_cases h <;> constructor <;> intros <;> rfl

theorem rowEncodes_of_formatOf {b : Byte} {f : Format} (h : formatOf b = some f) : RowEncodes (b, f) :=
  rowEncodes_of_mem (formatOf_mem h)

theorem encode_append_of_completeFormat {b : Byte} {f : Format} {ops rest : List Byte} {i : Instr}
    (hrow : RowEncodes (b, f)) (h : completeFormat b f ops = .ok (i, rest)) :
    b :: ops = encode i ++ rest := by
  unfold completeFormat at h
  split at h <;> cases h <;> cases hrow
  case h_1.refl.f1 henc => rw [henc]; rfl
  case h_2.refl.f2 v henc => rw [henc v]; rfl
  case h_3.refl.f3 lo hi henc =>
    rw [henc (joinBytes hi lo), wordBytes, lowByte_joinBytes, highByte_joinBytes]
    rfl

theorem eq_encode_append_of_decode {bytes rest : List Byte} {i : Instr}
    (h : decode bytes = .ok (i, rest)) : bytes = encode i ++ rest := by
  cases bytes with
  | nil => cases h
  | cons b ops =>
    cases hrow : formatOf b with
    | none =>
      rw [decode_cons_of_no_row hrow] at h
      cases h
    | some f =>
      rw [decode_cons_of_row hrow] at h
      exact encode_append_of_completeFormat (rowEncodes_of_formatOf hrow) h

/-! ### The opcode bytes without a row (R59) -/

theorem formatOf_eq_none_iff (b : Byte) : formatOf b = none ↔ ∀ i, opcode i ≠ b := by
  constructor
  · rintro hnone i rfl
    obtain ⟨f, hrow, -⟩ := exists_format i
    rw [hnone] at hrow
    cases hrow
  · intro hno
    cases hrow : formatOf b with
    | none => rfl
    | some f =>
      cases rowEncodes_of_formatOf hrow with
      | f1 henc => exact absurd (List.head_eq_of_cons_eq henc) (hno _)
      | f2 henc => exact absurd (List.head_eq_of_cons_eq (henc 0)) (hno _)
      | f3 henc => exact absurd (List.head_eq_of_cons_eq (henc 0)) (hno _)

theorem completeFormat_ne_invalid (b c : Byte) (f : Format) (ops : List Byte) :
    completeFormat b f ops ≠ .error (.invalidInstructionCode c) := by
  unfold completeFormat
  split <;> nofun

theorem decode_cons_eq_invalid_iff (b : Byte) (rest : List Byte) :
    decode (b :: rest) = .error (.invalidInstructionCode b) ↔ formatOf b = none := by
  refine ⟨fun herr => ?_, fun hnone => decode_cons_of_no_row hnone rest⟩
  cases hrow : formatOf b with
  | none => rfl
  | some f =>
    rw [decode_cons_of_row hrow] at herr
    exact absurd herr (completeFormat_ne_invalid b b f rest)

end Sys2Proof

namespace Sys2Proof.Forms

/-- A check of the 256 opcode bytes against the ranges of section 5. -/
theorem formatOf_isNone_iff_mem_invalidRanges (b : Byte) :
    (formatOf b).isNone = true ↔ ∃ r ∈ invalidRanges, r.1 ≤ b.toNat ∧ b.toNat ≤ r.2 := by
  revert b
  decide

end Sys2Proof.Forms

namespace Sys2Proof

/-! ### How many opcode bytes have a row (R58, R59) -/

theorem formatOf_isSome_iff (b : Byte) : (formatOf b).isSome = true ↔ b ∈ opcodeMap.map Prod.fst := by
  simp only [formatOf, Option.isSome_map, List.find?_isSome, beq_iff_eq, List.mem_map]

theorem decode_isSome_eq (b lo hi : Byte) :
    (decode [b, lo, hi]).toOption.isSome = (formatOf b).isSome := by
  cases hrow : formatOf b with
  | none => rw [decode_cons_of_no_row hrow]; rfl
  | some f => rw [decode_cons_of_row hrow]; cases f <;> rfl

/-- The bytes with a row are the keys of the opcode map, and no key stands there twice. -/
theorem valid_opcodes_perm_keys :
    ((List.range 256).filter fun n => (formatOf (BitVec.ofNat 8 n)).isSome).Perm
      ((opcodeMap.map Prod.fst).map BitVec.toNat) := by
  have hkeys := Laws.opcodeMap_nodup.map (fun _ _ => BitVec.eq_of_toNat_eq)
  rw [List.perm_ext_iff_of_nodup (List.nodup_range.filter _) hkeys]
  intro n
  rw [List.mem_filter, List.mem_range, formatOf_isSome_iff, List.mem_map (f := BitVec.toNat)]
  constructor
  · rintro ⟨hn, hkey⟩
    exact ⟨_, hkey, Nat.mod_eq_of_lt hn⟩
  · rintro ⟨b, hkey, rfl⟩
    rw [BitVec.ofNat_toNat, BitVec.setWidth_eq]
    exact ⟨b.isLt, hkey⟩

theorem valid_opcodes_length :
    ((List.range 256).filter fun n => (formatOf (BitVec.ofNat 8 n)).isSome).length =
      Config.numOpcodes := by
  rw [valid_opcodes_perm_keys.length_eq, List.length_map, List.length_map, Laws.opcodeMap_length]

theorem invalid_opcodes_length :
    ((List.range 256).filter fun n => !(formatOf (BitVec.ofNat 8 n)).isSome).length =
      Config.numInvalidOpcodes := by
  have hall := List.length_eq_length_filter_add (l := List.range 256)
    fun n => (formatOf (BitVec.ofNat 8 n)).isSome
  rw [List.length_range, valid_opcodes_length] at hall
  exact Nat.add_left_cancel (hall.symm.trans Laws.opcode_counts_sum.symm)

/-! ### The instructions and the variant tree (R57, R85) -/

/-- The instruction that stands for a variant, if one does (R58). -/
def Variant.toInstr : Variant → Option Instr
  | .brk => some .brk
  | .clear .carry => some .clc
  | .clear .decimal => some .cld
  | .clear .interruptDisable => some .cli
  | .clear .overflow => some .clv
  | .ld .a (.immediate imm) => some (.ldaImmediate imm)
  | .ld .a (.mem (.zeroPage a)) => some (.ldaZeroPage a)
  | .ld .a (.mem (.zeroPageX a)) => some (.ldaZeroPageX a)
  | .ld .a (.mem (.absolute a)) => some (.ldaAbsolute a)
  | .ld .a (.mem (.absoluteX a)) => some (.ldaAbsoluteX a)
  | .ld .a (.mem (.absoluteY a)) => some (.ldaAbsoluteY a)
  | .ld .a (.mem (.indirectX a)) => some (.ldaIndirectX a)
  | .ld .a (.mem (.indirectY a)) => some (.ldaIndirectY a)
  | .ld .x (.immediate imm) => some (.ldxImmediate imm)
  | .ld .x (.mem (.zeroPage a)) => some (.ldxZeroPage a)
  | .ld .x (.mem (.zeroPageY a)) => some (.ldxZeroPageY a)
  | .ld .x (.mem (.absolute a)) => some (.ldxAbsolute a)
  | .ld .x (.mem (.absoluteY a)) => some (.ldxAbsoluteY a)
  | .ld .y (.immediate imm) => some (.ldyImmediate imm)
  | .ld .y (.mem (.zeroPage a)) => some (.ldyZeroPage a)
  | .ld .y (.mem (.zeroPageX a)) => some (.ldyZeroPageX a)
  | .ld .y (.mem (.absolute a)) => some (.ldyAbsolute a)
  | .ld .y (.mem (.absoluteX a)) => some (.ldyAbsoluteX a)
  | .trr .a .x => some .tax
  | .inc .x => some .inx
  | .adc (.immediate imm) => some (.adcImmediate imm)
  | .adc (.mem (.zeroPage a)) => some (.adcZeroPage a)
  | .adc (.mem (.zeroPageX a)) => some (.adcZeroPageX a)
  | .adc (.mem (.absolute a)) => some (.adcAbsolute a)
  | .adc (.mem (.absoluteX a)) => some (.adcAbsoluteX a)
  | .adc (.mem (.absoluteY a)) => some (.adcAbsoluteY a)
  | .adc (.mem (.indirectX a)) => some (.adcIndirectX a)
  | .adc (.mem (.indirectY a)) => some (.adcIndirectY a)
  | .and (.immediate imm) => some (.andImmediate imm)
  | .and (.mem (.zeroPage a)) => some (.andZeroPage a)
  | .and (.mem (.zeroPageX a)) => some (.andZeroPageX a)
  | .and (.mem (.absolute a)) => some (.andAbsolute a)
  | .and (.mem (.absoluteX a)) => some (.andAbsoluteX a)
  | .and (.mem (.absoluteY a)) => some (.andAbsoluteY a)
  | .and (.mem (.indirectX a)) => some (.andIndirectX a)
  | .and (.mem (.indirectY a)) => some (.andIndirectY a)
  | .asl .accumulator => some .aslAccumulator
  | .asl (.mem (.zeroPage a)) => some (.aslZeroPage a)
  | .asl (.mem (.zeroPageX a)) => some (.aslZeroPageX a)
  | .asl (.mem (.absolute a)) => some (.aslAbsolute a)
  | .asl (.mem (.absoluteX a)) => some (.aslAbsoluteX a)
  | .bit (.mem (.zeroPage a)) => some (.bitZeroPage a)
  | .bit (.mem (.absolute a)) => some (.bitAbsolute a)
  | .branch (.relative off) .carry false => some (.bcc off)
  | .branch (.relative off) .carry true => some (.bcs off)
  | .branch (.relative off) .zero true => some (.beq off)
  | .branch (.relative off) .negative true => some (.bmi off)
  | .branch (.relative off) .zero false => some (.bne off)
  | .branch (.relative off) .negative false => some (.bpl off)
  | .branch (.relative off) .overflow false => some (.bvc off)
  | .branch (.relative off) .overflow true => some (.bvs off)
  | .cmp .a (.immediate imm) => some (.cmpImmediate imm)
  | .cmp .a (.mem (.zeroPage a)) => some (.cmpZeroPage a)
  | .cmp .a (.mem (.zeroPageX a)) => some (.cmpZeroPageX a)
  | .cmp .a (.mem (.absolute a)) => some (.cmpAbsolute a)
  | .cmp .a (.mem (.absoluteX a)) => some (.cmpAbsoluteX a)
  | .cmp .a (.mem (.absoluteY a)) => some (.cmpAbsoluteY a)
  | .cmp .a (.mem (.indirectX a)) => some (.cmpIndirectX a)
  | .cmp .a (.mem (.indirectY a)) => some (.cmpIndirectY a)
  | .cmp .x (.immediate imm) => some (.cpxImmediate imm)
  | .cmp .x (.mem (.zeroPage a)) => some (.cpxZeroPage a)
  | .cmp .x (.mem (.absolute a)) => some (.cpxAbsolute a)
  | .cmp .y (.immediate imm) => some (.cpyImmediate imm)
  | .cmp .y (.mem (.zeroPage a)) => some (.cpyZeroPage a)
  | .cmp .y (.mem (.absolute a)) => some (.cpyAbsolute a)
  | _ => none

theorem Variant.toInstr_variant (i : Instr) : i.variant.toInstr = some i := by
  cases i <;> rfl

theorem Instr.variant_injective : Function.Injective Instr.variant := by
  intro i j h
  apply Option.some.inj
  rw [← Variant.toInstr_variant i, h, Variant.toInstr_variant]

theorem Instr.variant_wellFormed (i : Instr) : i.variant.wellFormed = true := by
  cases i <;> rfl

theorem Variant.map_variant_toInstr (v : Variant) :
    v.toInstr.map Instr.variant = if v.wellFormed then some v else none := by
  cases v with
  | brk => rfl
  | clear f => cases f <;> rfl
  | trr origin dest => cases origin <;> cases dest <;> rfl
  | inc dest => cases dest <;> rfl
  | adc m | and m | asl m | bit m =>
    cases m with
    | mem m => cases m <;> rfl
    | _ => rfl
  | ld r m | cmp r m =>
    cases m with
    | mem m => cases r <;> cases m <;> rfl
    | _ => cases r <;> rfl
  | branch m f b =>
    cases m with
    | relative off => cases f <;> cases b <;> rfl
    | _ => rfl

theorem Variant.exists_instr_of_wellFormed {v : Variant} (h : v.wellFormed = true) :
    ∃ i : Instr, i.variant = v := by
  have hmap := v.map_variant_toInstr
  rw [h, if_pos rfl, Option.map_eq_some_iff] at hmap
  obtain ⟨i, -, hi⟩ := hmap
  exact ⟨i, hi⟩

end Sys2Proof

open Sys2Proof Sys2Proof.Forms

/-- Settles O1: the opcode finds the row, and the row rebuilds the instruction from its operand bytes. -/
theorem encodeThenDecodeGivesTheInstruction : Obligations.EncodeThenDecodeGivesTheInstruction :=
  decode_encode_append

/-- Settles O2: every row of the opcode map encodes what it builds by the bytes it was built from. -/
theorem decodedBytesAreTheEncoding : Obligations.DecodedBytesAreTheEncoding :=
  fun _ _ _ => eq_encode_append_of_decode

/-- Settles O3, row by row. -/
theorem opcodeTableRowsDecode : Obligations.OpcodeTableRowsDecode := by
  intro b lo hi row hrow
  unfold opcodeTableLow opcodeTableHigh at hrow
  fin_cases hrow <;> exact ⟨_, rfl, rfl⟩

/-- Settles O4: decode rejects a byte by name exactly when it has no row. -/
theorem invalidBytesAreRejectedByName : Obligations.InvalidBytesAreRejectedByName := by
  intro b rest
  rw [decode_cons_eq_invalid_iff, ← Option.isNone_iff_eq_none]
  exact formatOf_isNone_iff_mem_invalidRanges b

/-- Settles O5, word by word. -/
theorem writtenWordsDecode : Obligations.WrittenWordsDecode :=
  ⟨rfl, rfl, rfl, rfl, rfl, rfl, rfl, rfl, rfl, rfl, rfl, rfl, rfl⟩

/-- Settles O6: the check accepts a variant exactly when an instruction stands for it. -/
theorem wellFormedVariantsAreTheInstructions : Obligations.WellFormedVariantsAreTheInstructions := by
  intro v
  refine ⟨Variant.exists_instr_of_wellFormed, ?_⟩
  rintro ⟨i, rfl⟩
  exact i.variant_wellFormed

/-- Settles O51: the opcode map has as many rows as `Config.numOpcodes`, each for another byte. -/
theorem opcodeCountsAreTheConfiguredOnes : Obligations.OpcodeCountsAreTheConfiguredOnes := by
  unfold Obligations.OpcodeCountsAreTheConfiguredOnes
  simp only [decode_isSome_eq, ← Option.not_isSome]
  exact ⟨valid_opcodes_length, invalid_opcodes_length, rfl, rfl⟩

end

section
/-! Fetch and decode at an address (30_encoding.md R55): the bytes that a fetch reads are as many as the
instruction's format asks for, so decoding them is decoding the three bytes from that address on. -/

namespace Sys2Proof.Machine

theorem Memory.bytesFrom_three (m : Memory) (addr : Word) :
    m.bytesFrom addr 3 = [m.read addr, m.read (addr + 1#16), m.read (addr + 2#16)] := by
  have htwo : addr + 1#16 + 1#16 = addr + 2#16 := by rw [BitVec.add_assoc]; rfl
  rw [← htwo]
  rfl

theorem fetchBytes_of_row {m : Memory} {addr : Word} {f : Format}
    (h : formatOf (m.read addr) = some f) :
    fetchBytes m addr = m.read addr :: m.bytesFrom (addr + 1#16) f.operandBytes := by
  simp only [fetchBytes, fetchCount, h, Nat.add_comm 1, Memory.bytesFrom]

theorem fetchBytes_of_no_row {m : Memory} {addr : Word} (h : formatOf (m.read addr) = none) :
    fetchBytes m addr = [m.read addr] := by
  simp only [fetchBytes, fetchCount, h, Memory.bytesFrom]

theorem decodeAt_of_no_row {m : Memory} {addr : Word} (h : formatOf (m.read addr) = none) :
    decodeAt m addr = .error (.invalidInstructionCode (m.read addr)) := by
  rw [decodeAt, fetchBytes_of_no_row h, decode_cons_of_no_row h]

/-- A fetch reads the whole instruction and no byte after it. -/
theorem decode_fetchBytes {m : Memory} {addr : Word} {i : Instr} {rest : List Byte}
    (h : decode (m.bytesFrom addr 3) = .ok (i, rest)) : decode (fetchBytes m addr) = .ok (i, []) := by
  cases hrow : formatOf (m.read addr) with
  | none =>
    rw [Memory.bytesFrom, decode_cons_of_no_row hrow] at h
    cases h
  | some f =>
    rw [Memory.bytesFrom, decode_cons_of_row hrow] at h
    rw [fetchBytes_of_row hrow, decode_cons_of_row hrow]
    cases f <;> cases h <;> rfl

theorem fetchBytes_eq_encode {m : Memory} {addr : Word} {i : Instr} {rest : List Byte}
    (h : decode (m.bytesFrom addr 3) = .ok (i, rest)) : fetchBytes m addr = encode i := by
  rw [eq_encode_append_of_decode (decode_fetchBytes h), List.append_nil]

theorem decodeAt_of_decode {m : Memory} {addr : Word} {i : Instr} {rest : List Byte}
    (h : decode (m.bytesFrom addr 3) = .ok (i, rest)) :
    decodeAt m addr = .ok (i, addr + BitVec.ofNat 16 i.length) := by
  have hdec := decode_fetchBytes h
  rw [fetchBytes_eq_encode h] at hdec
  simp only [decodeAt, fetchBytes_eq_encode h, hdec, encode_length]

theorem exists_decode_of_row {m : Memory} {addr : Word} {f : Format}
    (h : formatOf (m.read addr) = some f) : ∃ i rest, decode (m.bytesFrom addr 3) = .ok (i, rest) := by
  rw [Memory.bytesFrom, decode_cons_of_row h]
  cases f <;> exact ⟨_, _, rfl⟩

/-- All that `decode(memory, pc)` can answer: the instruction in the three bytes from `addr` on with the address
after it, or an error because the byte at `addr` is no opcode. -/
theorem decodeAt_cases (m : Memory) (addr : Word) :
    (∃ i rest, decode (m.bytesFrom addr 3) = .ok (i, rest) ∧ opcode i = m.read addr ∧
      decodeAt m addr = .ok (i, addr + BitVec.ofNat 16 i.length)) ∨
    ((∀ i, opcode i ≠ m.read addr) ∧
      decodeAt m addr = .error (.invalidInstructionCode (m.read addr))) := by
  cases hrow : formatOf (m.read addr) with
  | none => exact .inr ⟨(formatOf_eq_none_iff _).mp hrow, decodeAt_of_no_row hrow⟩
  | some f =>
    obtain ⟨i, rest, hdec⟩ := exists_decode_of_row hrow
    have hop := List.head_eq_of_cons_eq (eq_encode_append_of_decode hdec)
    exact .inl ⟨i, rest, hdec, hop.symm, decodeAt_of_decode hdec⟩

/-- A one-byte instruction is known by its opcode. -/
theorem decodeAt_of_f1 {m : Memory} {addr : Word} {i : Instr}
    (h : formatOf (m.read addr) = some (.f1 i)) : decodeAt m addr = .ok (i, addr + 1#16) := by
  simp only [decodeAt, fetchBytes_of_row h, decode_cons_of_row h]
  rfl

end Sys2Proof.Machine
end

section
/-! The family rules (30_encoding.md R57) as a relation, and what each of them leaves unchanged. -/

namespace Sys2Proof.Machine

/-! ### The operations of fixed shape -/

@[simp] theorem load_sp (dest : Reg) (v : Byte) (s : State) : (load dest v s).sp = s.sp := by
  rw [load, State.setZN_sp, State.setReg_sp]

@[simp] theorem load_pc (dest : Reg) (v : Byte) (s : State) : (load dest v s).pc = s.pc := by
  rw [load, State.setZN_pc, State.setReg_pc]

@[simp] theorem load_rs (dest : Reg) (v : Byte) (s : State) : (load dest v s).rs = s.rs := by
  rw [load, State.setZN_rs, State.setReg_rs]

@[simp] theorem load_fr (dest : Reg) (v : Byte) (s : State) : (load dest v s).fr = s.fr := by
  rw [load, State.setZN_fr, State.setReg_fr]

@[simp] theorem load_p (dest : Reg) (v : Byte) (s : State) :
    (load dest v s).p = { s.p with z := isZero v, n := bit7 v } := by
  rw [load, State.setZN_p, State.setReg_p]
  rfl

/-- A branch is one assignment to PC (R160). -/
theorem branch_eq (f : Flag) (b : Bool) (off : Byte) (s : State) :
    branch f b off s = s.setPc (if s.p.get f = b then relativeTarget off s else s.pc) := by
  rw [branch]
  split <;> rfl

theorem effectiveAddress_setPc (m : MemMode) (s : State) (w : Word) :
    effectiveAddress m (s.setPc w) = effectiveAddress m s := by
  cases m <;> rfl

/-! ### The rules -/

/-- What a family makes of a state, one constructor for each rule of `executeVariant` that answers a state;
Trr and In are loads of the byte they copy or count up. -/
inductive Executes (s : State) : Variant → State → Prop
  | brk : Executes s .brk s.halt
  | clear (f : Flag) : Executes s (.clear f) (clearFlag f s)
  | ld (dest : Reg) {mode : Mode} {v : Byte} (hv : valueOf mode s = some v) :
    Executes s (.ld dest mode) (load dest v s)
  | trr (origin dest : Reg) : Executes s (.trr origin dest) (load dest (s.reg origin) s)
  | inc (dest : Reg) : Executes s (.inc dest) (load dest (s.reg dest + 1#8) s)
  | adc {mode : Mode} {v : Byte} (hv : valueOf mode s = some v) :
    Executes s (.adc mode) (addWithCarry v s)
  | and {mode : Mode} {v : Byte} (hv : valueOf mode s = some v) :
    Executes s (.and mode) (andAccumulator v s)
  | aslAccumulator : Executes s (.asl .accumulator) (shiftAccumulator s)
  | aslMemory (m : MemMode) : Executes s (.asl (.mem m)) (shiftMemory (effectiveAddress m s) s)
  | bit {mode : Mode} {v : Byte} (hv : valueOf mode s = some v) : Executes s (.bit mode) (bitTest v s)
  | branch (off : Byte) (f : Flag) (b : Bool) :
    Executes s (.branch (.relative off) f b)
      (s.setPc (if s.p.get f = b then relativeTarget off s else s.pc))
  | cmp (r : Reg) {mode : Mode} {v : Byte} (hv : valueOf mode s = some v) :
    Executes s (.cmp r mode) (compareWith r v s)

theorem executes_iff (s : State) (v : Variant) (t : State) :
    Executes s v t ↔ executeVariant v s = some t := by
  constructor
  · intro h
    cases h with
    | ld _ hv | adc hv | and hv | bit hv | cmp _ hv => simp only [executeVariant, hv, Option.map_some]
    | branch off f b => rw [← branch_eq]; rfl
    | _ => rfl
  · intro h
    cases v with
    | brk | clear _ | trr _ _ | inc _ => cases h; constructor
    | ld _ mode | adc mode | and mode | bit mode | cmp _ mode =>
      obtain ⟨b, hb, rfl⟩ := Option.map_eq_some_iff.mp h
      constructor
      exact hb
    | asl mode =>
      cases mode with
      | accumulator | mem m => cases h; constructor
      | immediate _ | relative _ => cases h
    | branch mode f b =>
      cases mode with
      | relative off =>
        cases h
        rw [branch_eq]
        exact .branch off f b
      | accumulator | immediate _ | mem _ => cases h

/-- Each arm of `exec` is its family's rule at its selectors and mode. -/
theorem exec_eq_rule (i : Instr) (s : State) :
    ∃ t, exec i s = .next t ∧ executeVariant i.variant s = some t := by
  cases i <;> exact ⟨_, rfl, rfl⟩

theorem exec_eq_next_iff (i : Instr) (s t : State) :
    exec i s = .next t ↔ executeVariant i.variant s = some t := by
  obtain ⟨u, hexec, hrule⟩ := exec_eq_rule i s
  rw [hexec, hrule, Host.Outcome.next.injEq, Option.some.injEq]

theorem executes_of_exec {i : Instr} {s t : State} (h : exec i s = .next t) : Executes s i.variant t :=
  (executes_iff s i.variant t).mpr ((exec_eq_next_iff i s t).mp h)

/-! ### What a rule leaves unchanged -/

section
variable {s t : State} {v : Variant}

theorem Executes.sp_eq (h : Executes s v t) : t.sp = s.sp := by
  cases h with
  | ld | trr | inc => exact load_sp _ _ _
  | _ => rfl

theorem Executes.fr_eq (h : Executes s v t) : t.fr = s.fr := by
  cases h with
  | ld | trr | inc => exact load_fr _ _ _
  | _ => rfl

theorem Executes.rs_eq (h : Executes s v t) (hv : v ≠ .brk) : t.rs = s.rs := by
  cases h with
  | brk => exact absurd rfl hv
  | ld | trr | inc => exact load_rs _ _ _
  | _ => rfl

theorem Executes.rs_cases (h : Executes s v t) : t.rs = s.rs ∨ t.rs = .halted := by
  by_cases hv : v = .brk
  case pos =>
    subst hv
    cases h
    exact .inr rfl
  case neg => exact .inl (h.rs_eq hv)

theorem Executes.pc_eq (h : Executes s v t) (hv : ∀ m f b, v ≠ .branch m f b) : t.pc = s.pc := by
  cases h with
  | branch off f b => exact absurd rfl (hv _ f b)
  | ld | trr | inc => exact load_pc _ _ _
  | _ => rfl

theorem Executes.mem_eq (h : Executes s v t) (hv : ∀ m, v ≠ .asl (.mem m)) : t.mem = s.mem := by
  cases h with
  | aslMemory m => exact absurd rfl (hv m)
  | ld | trr | inc => exact load_mem _ _ _
  | _ => rfl

/-- The one rule that writes memory writes one byte, at its effective address (20_memory.md R42). -/
theorem Executes.mem_shift {m : MemMode} (h : Executes s (.asl (.mem m)) t) :
    t.mem = s.mem.write (effectiveAddress m s) (aslResult (s.mem.read (effectiveAddress m s))) := by
  cases h
  rfl

theorem Executes.reg_eq (h : Executes s v t) {r : Reg} (hr : ¬ Forms.writesReg r v) :
    t.reg r = s.reg r := by
  cases h with
  | ld | trr | inc => exact load_reg_of_ne _ _ hr
  | adc | and | aslAccumulator =>
    cases r with
    | a => exact absurd rfl hr
    | x | y => rfl
  | _ => cases r <;> rfl

theorem Executes.get_eq (h : Executes s v t) {f : Flag} (hf : ¬ Forms.writesFlag f v) :
    t.p.get f = s.p.get f := by
  cases h with
  | clear g => exact Status.get_set_of_ne _ _ hf
  | brk | branch => rfl
  | ld | trr | inc => rw [load_p]; cases f <;> simp [Forms.writesFlag] at hf ⊢
  | _ => cases f <;> simp [Forms.writesFlag] at hf <;> rfl

end

end Sys2Proof.Machine

namespace Sys2Proof.Forms

open Sys2Proof.Machine

theorem exec_of_mem_clears {f : Instr × Flag} (hf : f ∈ clears) (s : State) :
    exec f.1 s = .next (clearFlag f.2 s) := by
  unfold clears at hf
  fin_cases hf <;> rfl

theorem exec_of_mem_branches {off : Byte} {f : Instr × Flag × Bool} (hf : f ∈ branches off)
    (s : State) : exec f.1 s = .next (branch f.2.1 f.2.2 off s) := by
  unfold branches at hf
  fin_cases hf <;> rfl

theorem znDescribe_load (dest : Reg) (v : Byte) (s : State) : ZNDescribe (load dest v s).p v :=
  znDescribe_setZN (s.setReg dest v) v

end Sys2Proof.Forms

open Sys2Proof Sys2Proof.Machine Sys2Proof.Forms

/-- Settles O16: BRK is `halt`. -/
theorem brkHalts : Obligations.BrkHalts :=
  fun s => ⟨s.halt, rfl, State.halt_rs s, rfl⟩

/-- Settles O17: every clear instruction is `clearFlag`, a set of its one flag. -/
theorem clearInstructionsClearOneFlag : Obligations.ClearInstructionsClearOneFlag := by
  intro s f hf
  exact ⟨clearFlag f.2 s, exec_of_mem_clears hf s, Status.get_set_same _ _ _,
    fun _ => Status.get_set_of_ne _ _, rfl⟩

/-- Settles O19: a transfer is a load of the origin's byte. -/
theorem taxAndTransferCopyTheOrigin : Obligations.TaxAndTransferCopyTheOrigin := by
  intro s
  refine ⟨rfl, fun origin dest => ⟨_, transfer_eq origin dest s, ?_⟩⟩
  exact ⟨load_reg_same dest _ s, fun _ => load_reg_of_ne _ s, znDescribe_load dest _ s,
    load_frame dest _ s⟩

/-- Settles O20: with `IN_SETS_OVERFLOW` false, INX is a load of X plus one into X. -/
theorem inxIncrementsX : Obligations.InxIncrementsX := by
  intro s
  refine ⟨load .x (s.x + 1#8) s, rfl, ?_, znDescribe_load .x _ s, ?_⟩
  · rw [load_x_eq]
    exact BitVec.toNat_add s.x 1#8
  · rw [load_x_eq]

/-- Settles O21: the parameter adds one `setFlag` of V to the load that the increment is. -/
theorem incrementParameterWritesOverflow : Obligations.IncrementParameterWritesOverflow := by
  intro s r
  refine ⟨_, _, increment_setsOverflow r s, increment_keepsOverflow r s, ?_, ?_, rfl⟩
  · rw [State.setFlag_p, Status.set_overflow_v, beq_iff_eq, ← BitVec.toNat_inj]
    rfl
  · rw [load_p]

/-- Settles O26: every branch is `branch`, and the displacement is added as a signed number. -/
theorem branchesMoveOnlyThePc : Obligations.BranchesMoveOnlyThePc := by
  intro s off f hf
  refine ⟨branch f.2.1 f.2.2 off s, exec_of_mem_branches hf s, fun htaken => ?_, fun hnot => ?_, ?_⟩
  · rw [branch_taken off htaken]
    exact relativeTarget_toNat off s
  · rw [branch_notTaken off hnot]
  · rw [branch_eq]
    rfl

/-- Settles O28: the frame of the family rules, of which the arm of `exec` is one. -/
theorem execFrame : Obligations.ExecFrame := by
  intro i s t hexec
  have h := executes_of_exec hexec
  refine ⟨fun _ => h.reg_eq, fun _ => h.get_eq, h.sp_eq, h.fr_eq, h.rs_eq, h.pc_eq, ?_, ?_⟩
  · intro hv b
    rw [h.mem_eq hv]
  · intro m hv hwf b hb
    rw [hv] at h
    rw [h.mem_shift, Memory.read_write hwf, if_neg hb]

/-- Settles O29: both sides are functions of the state, and they agree arm by arm. -/
theorem execIsTheFamilyRule : Obligations.ExecIsTheFamilyRule :=
  exec_eq_next_iff

end

section
/-! The step (70_reset_and_hazards.md R226) as a relation, and the elements of the state that have no
influence on it: SP (10_state.md R12), the fault record (R22) and the flags I and D (R19). -/

namespace Sys2Proof.Machine

/-- What a step makes of a state: nothing when it is not enabled, the fault entry when the byte at PC is no
opcode, and otherwise the family rule of the instruction at PC, on the state whose PC is past it. -/
inductive StepsTo (s : State) : State → Prop
  | stopped (hrs : s.rs ≠ .ready) : StepsTo s s
  | invalid (hrs : s.rs = .ready) (hop : ∀ i, opcode i ≠ s.mem.read s.pc) :
    StepsTo s (s.enterFault (s.mem.read s.pc) s.pc)
  | executed (hrs : s.rs = .ready) {i : Instr} {rest : List Byte} {t : State}
    (hdec : decode (s.mem.bytesFrom s.pc 3) = .ok (i, rest)) (hop : opcode i = s.mem.read s.pc)
    (hexec : Executes (s.setPc (s.pc + BitVec.ofNat 16 i.length)) i.variant t) : StepsTo s t

theorem step_of_no_opcode {s : State} (hrs : s.rs = .ready) (hop : ∀ i, opcode i ≠ s.mem.read s.pc) :
    step s = .next (s.enterFault (s.mem.read s.pc) s.pc) :=
  step_undecoded hrs (decodeAt_of_no_row ((formatOf_eq_none_iff _).mpr hop))

theorem step_of_decode {s : State} {i : Instr} {rest : List Byte} (hrs : s.rs = .ready)
    (hdec : decode (s.mem.bytesFrom s.pc 3) = .ok (i, rest)) :
    step s = exec i (s.setPc (s.pc + BitVec.ofNat 16 i.length)) :=
  step_decoded hrs (decodeAt_of_decode hdec)

theorem stepsTo_iff (s t : State) : StepsTo s t ↔ step s = .next t := by
  constructor
  · intro h
    cases h with
    | stopped hrs => exact step_notReady hrs
    | invalid hrs hop => exact step_of_no_opcode hrs hop
    | executed hrs hdec _ hexec =>
      rw [step_of_decode hrs hdec, exec_eq_next_iff]
      exact (executes_iff _ _ _).mp hexec
  · intro h
    by_cases hrs : s.rs = .ready
    case neg =>
      rw [step_notReady hrs] at h
      cases h
      exact .stopped hrs
    case pos =>
      obtain ⟨i, rest, hdec, hop, -⟩ | ⟨hop, -⟩ := decodeAt_cases s.mem s.pc
      · rw [step_of_decode hrs hdec] at h
        exact .executed hrs hdec hop (executes_of_exec h)
      · rw [step_of_no_opcode hrs hop] at h
        cases h
        exact .invalid hrs hop

theorem exists_step (s : State) : ∃ t, step s = .next t := by
  by_cases hrs : s.rs = .ready
  case neg => exact ⟨s, step_notReady hrs⟩
  case pos =>
    obtain ⟨i, rest, hdec, -, -⟩ | ⟨hop, -⟩ := decodeAt_cases s.mem s.pc
    · rw [step_of_decode hrs hdec]
      obtain ⟨t, hexec, -⟩ := exec_eq_rule i (s.setPc (s.pc + BitVec.ofNat 16 i.length))
      exact ⟨t, hexec⟩
    · exact ⟨_, step_of_no_opcode hrs hop⟩

/-! ### The elements without influence -/

/-- The state with its stack pointer, fault record and flags I and D replaced. -/
def State.withInert (s : State) (b : Byte) (r : Option FaultRecord) (i d : Bool) : State :=
  { s with sp := b, fr := r, p := { s.p with i := i, d := d } }

theorem valueOf_withInert (mode : Mode) (s : State) (b : Byte) (r : Option FaultRecord) (i d : Bool) :
    valueOf mode (s.withInert b r i d) = valueOf mode s := by
  cases mode with
  | mem m => cases m <;> rfl
  | _ => rfl

theorem effectiveAddress_withInert (m : MemMode) (s : State) (b : Byte) (r : Option FaultRecord)
    (i d : Bool) : effectiveAddress m (s.withInert b r i d) = effectiveAddress m s := by
  cases m <;> rfl

theorem load_withInert (dest : Reg) (v : Byte) (s : State) (b : Byte) (r : Option FaultRecord)
    (i d : Bool) : load dest v (s.withInert b r i d) = (load dest v s).withInert b r i d := by
  cases dest <;> rfl

section
variable {s t : State} {v : Variant}

/-- A rule runs the same whatever the inert elements hold, and its result holds the same of them that the
given state held. A branch on I or D would be an exception; no instruction is one (R85). -/
theorem Executes.withInert (h : Executes s v t) (hwf : v.wellFormed = true) (b : Byte)
    (r : Option FaultRecord) (i d : Bool) :
    ∃ i' d', Executes (s.withInert b r i d) v (t.withInert b r i' d') ∧
      (i = s.p.i → i' = t.p.i) ∧ (d = s.p.d → d' = t.p.d) := by
  cases h with
  | clear f =>
    cases f with
    | interruptDisable => exact ⟨false, d, .clear _, fun _ => rfl, id⟩
    | decimal => exact ⟨i, false, .clear _, id, fun _ => rfl⟩
    | _ => exact ⟨i, d, .clear _, id, id⟩
  | brk => exact ⟨i, d, .brk, id, id⟩
  | ld dest hv =>
    rw [← valueOf_withInert _ s b r i d] at hv
    rw [load_p]
    exact ⟨i, d, load_withInert dest _ s b r i d ▸ .ld dest hv, id, id⟩
  | trr origin dest =>
    rw [load_p]
    exact ⟨i, d, load_withInert dest _ s b r i d ▸ .trr origin dest, id, id⟩
  | inc dest =>
    rw [load_p]
    exact ⟨i, d, load_withInert dest _ s b r i d ▸ .inc dest, id, id⟩
  | adc hv => exact ⟨i, d, .adc (valueOf_withInert _ s b r i d ▸ hv), id, id⟩
  | and hv => exact ⟨i, d, .and (valueOf_withInert _ s b r i d ▸ hv), id, id⟩
  | aslAccumulator => exact ⟨i, d, .aslAccumulator, id, id⟩
  | aslMemory m => exact ⟨i, d, effectiveAddress_withInert m s b r i d ▸ .aslMemory m, id, id⟩
  | bit hv => exact ⟨i, d, .bit (valueOf_withInert _ s b r i d ▸ hv), id, id⟩
  | branch off f x =>
    cases f with
    | interruptDisable | decimal => cases hwf
    | _ => exact ⟨i, d, .branch off _ x, id, id⟩
  | cmp q hv => exact ⟨i, d, .cmp q (valueOf_withInert _ s b r i d ▸ hv), id, id⟩

theorem StepsTo.withInert (h : StepsTo s t) (b : Byte) (r : Option FaultRecord) (i d : Bool) :
    ∃ r' i' d', StepsTo (s.withInert b r i d) (t.withInert b r' i' d') ∧
      (r = s.fr → r' = t.fr) ∧ (i = s.p.i → i' = t.p.i) ∧ (d = s.p.d → d' = t.p.d) := by
  cases h with
  | stopped hrs => exact ⟨r, i, d, .stopped hrs, id, id, id⟩
  | invalid hrs hop => exact ⟨_, i, d, .invalid hrs hop, fun _ => rfl, id, id⟩
  | executed hrs hdec hop hexec =>
    obtain ⟨i', d', hexec', hi, hd⟩ := hexec.withInert (Instr.variant_wellFormed _) b r i d
    exact ⟨r, i', d', .executed (s := s.withInert b r i d) hrs hdec hop hexec',
      fun hr => hr.trans hexec.fr_eq.symm, hi, hd⟩

theorem StepsTo.sp_eq (h : StepsTo s t) : t.sp = s.sp := by
  cases h with
  | executed _ _ _ hexec => exact hexec.sp_eq
  | _ => rfl

end

/-! ### Instructions known by their opcode byte -/

section
variable {s t : State}

theorem step_of_f1 {i : Instr} (hrs : s.rs = .ready) (hrow : formatOf (s.mem.read s.pc) = some (.f1 i)) :
    step s = exec i (s.setPc (s.pc + 1#16)) :=
  step_decoded hrs (decodeAt_of_f1 hrow)

theorem step_of_brk (hrs : s.rs = .ready) (hop : s.mem.read s.pc = 0x00#8) :
    step s = .next { s with pc := s.pc + 1#16, rs := .halted } :=
  step_of_f1 (i := .brk) hrs (by rw [hop]; rfl)

theorem StepsTo.opcode_of_halted (h : StepsTo s t) (hrs : s.rs = .ready) (ht : t.rs = .halted) :
    s.mem.read s.pc = 0x00#8 := by
  cases h with
  | stopped hne => exact absurd hrs hne
  | invalid => cases ht
  | @executed _ i _ _ _ hop hexec =>
    by_cases hv : i.variant = .brk
    case pos =>
      have hi : i = .brk := Instr.variant_injective hv
      rw [← hop, hi]
      rfl
    case neg =>
      rw [hexec.rs_eq hv, State.setPc_rs, hrs] at ht
      cases ht

theorem StepsTo.no_opcode_of_faulted (h : StepsTo s t) (hrs : s.rs = .ready) (ht : t.rs = .faulted) :
    ∀ i, opcode i ≠ s.mem.read s.pc := by
  cases h with
  | stopped hne => exact absurd hrs hne
  | invalid _ hop => exact hop
  | executed _ _ _ hexec =>
    obtain hkeep | hhalt := hexec.rs_cases
    · rw [hkeep, State.setPc_rs, hrs] at ht
      cases ht
    · rw [hhalt] at ht
      cases ht

/-- A flag is changed only by the instruction whose variant is the one that writes it (R18). -/
theorem StepsTo.opcode_of_changed {f : Flag} {i : Instr} (h : StepsTo s t)
    (hw : ∀ v, Forms.writesFlag f v → v = i.variant) (hne : t.p.get f ≠ s.p.get f) :
    s.rs = .ready ∧ s.mem.read s.pc = opcode i := by
  cases h with
  | stopped | invalid => exact absurd rfl hne
  | @executed hrs j _ _ _ hop hexec =>
    by_cases hj : Forms.writesFlag f j.variant
    case pos => exact ⟨hrs, by rw [← hop, Instr.variant_injective (hw _ hj)]⟩
    case neg => exact absurd (hexec.get_eq hj) hne

/-- A flag that only its clear instruction writes is changed by that instruction alone, is 0 after it, and is
never set. -/
theorem StepsTo.flag_of_only_cleared {f : Flag} {i : Instr} (h : StepsTo s t)
    (hw : ∀ v, Forms.writesFlag f v → v = i.variant) (hrow : formatOf (opcode i) = some (.f1 i))
    (hexec : ∀ u, exec i u = .next (clearFlag f u)) :
    (t.p.get f ≠ s.p.get f → s.rs = .ready ∧ s.mem.read s.pc = opcode i) ∧
    (s.rs = .ready → s.mem.read s.pc = opcode i → t.p.get f = false) ∧
    (t.p.get f = true → s.p.get f = true) := by
  have hclear (hrs : s.rs = .ready) (hop : s.mem.read s.pc = opcode i) : t.p.get f = false := by
    have hstep := (stepsTo_iff s t).mp h
    rw [step_of_f1 hrs (hop ▸ hrow), hexec] at hstep
    cases hstep
    exact Status.get_set_same _ _ _
  refine ⟨h.opcode_of_changed hw, hclear, fun ht => ?_⟩
  by_contra hs
  obtain ⟨hrs, hop⟩ := h.opcode_of_changed hw (ht ▸ Ne.symm hs)
  rw [hclear hrs hop] at ht
  cases ht

end

/-! ### The invariant -/

section
variable {s t : State} {v : Variant}

theorem Executes.mem_wf (h : Executes s v t) (hwf : s.mem.wf = true) : t.mem.wf = true := by
  by_cases hv : ∀ m, v ≠ .asl (.mem m)
  case pos => rwa [h.mem_eq hv]
  case neg =>
    obtain ⟨m, rfl⟩ := not_forall_not.mp hv
    rw [h.mem_shift]
    exact Memory.write_wf hwf _ _

theorem Executes.inv (h : Executes s v t) (hinv : s.Inv) : t.Inv := by
  obtain ⟨hwf, hrec⟩ := hinv
  refine ⟨h.mem_wf hwf, fun hfault => ?_⟩
  obtain hkeep | hhalt := h.rs_cases
  · rw [h.fr_eq]
    exact hrec (hkeep ▸ hfault)
  · rw [hhalt] at hfault
    cases hfault

theorem StepsTo.inv (h : StepsTo s t) (hinv : s.Inv) : t.Inv := by
  cases h with
  | stopped => exact hinv
  | invalid => exact ⟨hinv.1, fun _ => nofun⟩
  | executed _ _ _ hexec => exact hexec.inv hinv

/-- The cell that a step changed is the one that its ASL addressed. -/
theorem StepsTo.shift_of_read_ne (h : StepsTo s t) (hwf : s.mem.wf = true) {b : Word}
    (hne : t.mem.read b ≠ s.mem.read b) :
    s.rs = .ready ∧ ∃ i rest m, decode (s.mem.bytesFrom s.pc 3) = .ok (i, rest) ∧
      i.variant = .asl (.mem m) ∧ b = effectiveAddress m s := by
  cases h with
  | stopped | invalid => exact absurd rfl hne
  | @executed hrs i rest _ hdec _ hexec =>
    by_cases hv : ∀ m, i.variant ≠ .asl (.mem m)
    case pos => exact absurd (by rw [hexec.mem_eq hv]; rfl) hne
    case neg =>
      obtain ⟨m, hm⟩ := not_forall_not.mp hv
      refine ⟨hrs, i, rest, m, hdec, hm, ?_⟩
      by_contra hb
      rw [hm] at hexec
      rw [hexec.mem_shift, effectiveAddress_setPc, State.setPc_mem, Memory.read_write hwf,
        if_neg hb] at hne
      exact hne rfl

end

end Sys2Proof.Machine

namespace Sys2Proof.Forms

open Sys2Proof.Machine

theorem bytesAtPc_eq (s : State) : bytesAtPc s = s.mem.bytesFrom s.pc 3 :=
  (Memory.bytesFrom_three s.mem s.pc).symm

theorem eq_clear_of_writesFlag {f : Flag} {v : Variant} (hf : f = .interruptDisable ∨ f = .decimal)
    (h : writesFlag f v) : v = .clear f := by
  cases v with
  | clear g => exact congrArg _ h.symm
  | _ => obtain rfl | rfl := hf <;> cases h

end Sys2Proof.Forms

open Sys2Proof Sys2Proof.Machine Sys2Proof.Forms

/-- Settles O7: the fetch reads the bytes of `i` out of the three at PC. -/
theorem stepRunsTheDecodedInstruction : Obligations.StepRunsTheDecodedInstruction := by
  intro s i rest hrs hdec
  rw [bytesAtPc_eq] at hdec
  exact step_of_decode hrs hdec

/-- Settles O8: a byte that is no opcode has no row, so decode fails. -/
theorem invalidOpcodeEntersFaulted : Obligations.InvalidOpcodeEntersFaulted :=
  fun _ => step_of_no_opcode

/-- Settles O10: every case of the step answers a next state, and an answer is one state. -/
theorem everyStepAnswersANextState : Obligations.EveryStepAnswersANextState := by
  intro s
  obtain ⟨t, ht⟩ := exists_step s
  refine ⟨t, ht, fun u hu => ?_⟩
  rw [ht] at hu
  exact (Host.Outcome.next.inj hu).symm

/-- Settles O11: of the cases of a step, only BRK halts and only the fault entry faults. -/
theorem onlyBrkHaltsAndOnlyInvalidOpcodesFault : Obligations.OnlyBrkHaltsAndOnlyInvalidOpcodesFault := by
  intro s t hrs hstep
  have h := (stepsTo_iff s t).mpr hstep
  have hbrk (hop : s.mem.read s.pc = 0x00#8) : t = { s with pc := s.pc + 1#16, rs := .halted } := by
    rw [step_of_brk hrs hop] at hstep
    exact (Host.Outcome.next.inj hstep).symm
  refine ⟨⟨h.opcode_of_halted hrs, fun hop => ?_⟩, fun ht => hbrk (h.opcode_of_halted hrs ht),
    h.no_opcode_of_faulted hrs, fun hop => ?_⟩
  · rw [hbrk hop]
  · rw [step_of_no_opcode hrs hop] at hstep
    cases hstep
    rfl

/-- Settles O12: no rule but that of Branch writes PC, which the decode has put past the instruction. -/
theorem nonBranchAdvancesByItsLength : Obligations.NonBranchAdvancesByItsLength := by
  intro s t i rest hrs hdec hv hstep
  rw [stepRunsTheDecodedInstruction s i rest hrs hdec] at hstep
  have hpc : t.pc = s.pc + BitVec.ofNat 16 i.length := (executes_of_exec hstep).pc_eq hv
  refine ⟨?_, i.one_le_length, i.length_le_three⟩
  rw [hpc, BitVec.toNat_add, BitVec.toNat_ofNat, Nat.add_mod_mod]

/-- Settles O13: of the cases of a step, only the rule of ASL with a memory mode writes memory. -/
theorem memoryChangesOnlyByShift : Obligations.MemoryChangesOnlyByShift := by
  intro s t b hwf hstep hne
  rw [bytesAtPc_eq]
  exact ((stepsTo_iff s t).mpr hstep).shift_of_read_ne hwf hne

/-- Settles O14: SP and the fault record are inert elements, and a step never writes SP. -/
theorem stackPointerAndRecordAreInert : Obligations.StackPointerAndRecordAreInert := by
  intro s t hstep
  have h := (stepsTo_iff s t).mpr hstep
  refine ⟨h.sp_eq, fun s' hs' => ?_, fun s' hs' => ?_⟩
  · obtain ⟨r, i, d, h', hr, hi, hd⟩ := h.withInert s'.sp s.fr s.p.i s.p.d
    obtain rfl := hr rfl
    obtain rfl := hi rfl
    obtain rfl := hd rfl
    rw [hs']
    exact ⟨_, (stepsTo_iff _ _).mp h', rfl, rfl⟩
  · obtain ⟨r, i, d, h', -, hi, hd⟩ := h.withInert s.sp s'.fr s.p.i s.p.d
    obtain rfl := hi rfl
    obtain rfl := hd rfl
    rw [hs']
    refine ⟨_, (stepsTo_iff _ _).mp h', ?_⟩
    rw [← h.sp_eq]
    rfl

/-- Settles O15: I and D are inert elements, and of the variants only the clear of such a flag writes it. -/
theorem interruptAndDecimalFlagsHaveNoEffect : Obligations.InterruptAndDecimalFlagsHaveNoEffect := by
  intro s t hstep
  have h := (stepsTo_iff s t).mpr hstep
  obtain ⟨hi, hcli, hsetI⟩ := h.flag_of_only_cleared (f := .interruptDisable) (i := .cli)
    (fun _ => eq_clear_of_writesFlag (.inl rfl)) rfl (fun _ => rfl)
  obtain ⟨hd, hcld, hsetD⟩ := h.flag_of_only_cleared (f := .decimal) (i := .cld)
    (fun _ => eq_clear_of_writesFlag (.inr rfl)) rfl (fun _ => rfl)
  refine ⟨fun s' hs' => ?_, hi, hd, hcli, hcld, hsetI, hsetD⟩
  obtain ⟨r, i, d, h', hr, -, -⟩ := h.withInert s.sp s.fr s'.p.i s'.p.d
  obtain rfl := hr rfl
  rw [hs']
  refine ⟨_, (stepsTo_iff _ _).mp h', ?_⟩
  rw [← h.sp_eq]
  rfl

/-- Settles O41: an executed rule keeps the invariant, and only the fault entry makes a Ready machine Faulted. -/
theorem stepKeepsSafeInvariant : Obligations.StepKeepsSafeInvariant := by
  intro s t hinv hstep
  have h := (stepsTo_iff s t).mpr hstep
  refine ⟨h.inv hinv, fun hrs hfault => ?_⟩
  rw [step_of_no_opcode hrs (h.no_opcode_of_faulted hrs hfault)] at hstep
  cases hstep
  rfl

/-- Settles O52: every arm of `exec` answers a next state, and no state holds the one mode. -/
theorem onePrivilegeModePermitsEveryInstruction :
    Obligations.OnePrivilegeModePermitsEveryInstruction := by
  refine ⟨⟨[.only], List.nodup_singleton _, fun m => ?_, rfl⟩, rfl, fun i s => ?_, fun s t _ => ?_⟩
  · rw [List.mem_singleton, Laws.privilegeMode_eq m .only]
  · obtain ⟨t, hexec, -⟩ := exec_eq_rule i s
    exact ⟨t, hexec⟩
  · exact Laws.privilegeMode_eq _ _

end

section
/-! Canonical memory (10_state.md R20; log 6) as data, and the word that is placed at PC (log 3). -/

namespace Sys2Proof.Machine

theorem Memory.get_cons_same (k : Nat) (v : Byte) (rest : Memory) : Memory.get ((k, v) :: rest) k = v :=
  if_pos rfl

theorem Memory.get_cons_of_ne {j k : Nat} (v : Byte) (rest : Memory) (h : j ≠ k) :
    Memory.get ((k, v) :: rest) j = Memory.get rest j :=
  if_neg h

/-- The first entry of a canonical list is its lowest cell that is not the unlisted byte, so it is the first
entry of every canonical list with the same cells. -/
theorem Memory.first_le_of_get_eq {low k k' : Nat} {v v' : Byte} {rest rest' : Memory}
    (hm : Memory.wfAbove low ((k, v) :: rest) = true)
    (hn : Memory.wfAbove k' ((k', v') :: rest') = true)
    (hget : Memory.get ((k, v) :: rest) k = Memory.get ((k', v') :: rest') k) : k' ≤ k := by
  by_contra hlt
  obtain ⟨-, -, hv, -⟩ := wfAbove_cons.mp hm
  rw [get_cons_same, get_below hn (Nat.not_le.mp hlt)] at hget
  exact hv hget

theorem Memory.wfAbove_first {low k : Nat} {v : Byte} {rest : Memory}
    (h : Memory.wfAbove low ((k, v) :: rest) = true) : Memory.wfAbove k ((k, v) :: rest) = true := by
  obtain ⟨-, hk, hv, hrest⟩ := wfAbove_cons.mp h
  exact wfAbove_cons.mpr ⟨le_rfl, hk, hv, hrest⟩

theorem Memory.eq_nil_of_get {low : Nat} {m : Memory} (h : Memory.wfAbove low m = true)
    (hget : ∀ j < 65536, m.get j = unlistedByte) : m = [] := by
  cases m with
  | nil => rfl
  | cons e rest =>
    obtain ⟨-, hk, hv, -⟩ := wfAbove_cons.mp h
    exact absurd ((get_cons_same _ _ _).symm.trans (hget e.1 hk)) hv

theorem Memory.eq_of_get_eq {low low' : Nat} {m n : Memory} (hm : Memory.wfAbove low m = true)
    (hn : Memory.wfAbove low' n = true) (hget : ∀ j < 65536, m.get j = n.get j) : m = n := by
  induction m generalizing low low' n with
  | nil => exact (eq_nil_of_get hn fun j hj => (hget j hj).symm).symm
  | cons e rest ih =>
    obtain ⟨k, v⟩ := e
    cases n with
    | nil => exact eq_nil_of_get hm hget
    | cons e' rest' =>
      obtain ⟨k', v'⟩ := e'
      obtain ⟨-, hk, -, hrest⟩ := wfAbove_cons.mp hm
      obtain ⟨-, hk', -, hrest'⟩ := wfAbove_cons.mp hn
      have hfirst : k = k' := le_antisymm
        (first_le_of_get_eq hn (wfAbove_first hm) (hget k' hk').symm)
        (first_le_of_get_eq hm (wfAbove_first hn) (hget k hk))
      subst hfirst
      have hbyte : v = v' := by simpa only [get_cons_same] using hget k hk
      have htail : rest = rest' := ih hrest hrest' fun j hj => by
        by_cases hjk : j = k
        case pos => rw [hjk, get_below hrest k.lt_succ_self, get_below hrest' k.lt_succ_self]
        case neg => simpa only [get_cons_of_ne _ _ hjk] using hget j hj
      rw [hbyte, htail]

/-- Reading a copied slice from its start gives the slice. -/
theorem Memory.bytesFrom_copy_three {m : Memory} (h : m.wf = true) (addr : Word) (b0 b1 b2 : Byte) :
    (m.copy addr [b0, b1, b2]).bytesFrom addr 3 = [b0, b1, b2] := by
  have hread := read_copy_add h addr [b0, b1, b2] (by simp)
  have h0 := hread 0 (by simp)
  have h1 := hread 1 (by simp)
  have h2 := hread 2 (by simp)
  rw [BitVec.add_zero] at h0
  rw [bytesFrom_three, h0, h1, h2]
  rfl

theorem decode_of_decodeTableWord {nbits w : Nat} {i : Instr} (h : decodeTableWord nbits w = some i) :
    ∃ rest, decode (tableBytes nbits w) = .ok (i, rest) := by
  unfold decodeTableWord at h
  split at h
  case h_1 j rest hdec =>
    cases h
    exact ⟨rest, hdec⟩
  case h_2 => cases h

theorem bytesFrom_withFetchWord {s : State} (h : s.mem.wf = true) (nbits w : Nat) :
    (s.withFetchWord nbits w).mem.bytesFrom s.pc 3 = tableBytes nbits w :=
  Memory.bytesFrom_copy_three h s.pc _ _ _

end Sys2Proof.Machine

open Sys2Proof Sys2Proof.Machine

/-- Settles O38: the lists have the same first entry, and then their tails agree on every cell. -/
theorem canonicalMemoriesThatReadTheSameAreEqual :
    Obligations.CanonicalMemoriesThatReadTheSameAreEqual := by
  intro m n hm hn hread
  refine Memory.eq_of_get_eq hm hn fun j hj => ?_
  have hcell := hread (BitVec.ofNat 16 j)
  rwa [Memory.read, Memory.read, BitVec.toNat_ofNat, Nat.mod_eq_of_lt hj] at hcell

/-- Settles O50: the three bytes at PC are those of the placed word. -/
theorem placedWordIsTheOneThatRuns : Obligations.PlacedWordIsTheOneThatRuns := by
  intro s nbits w i hwf hword
  obtain ⟨rest, hdec⟩ := decode_of_decodeTableWord hword
  rw [← bytesFrom_withFetchWord hwf] at hdec
  exact step_of_decode (s := s.withFetchWord nbits w) rfl hdec

end

section
/-! The host's operations (70_reset_and_hazards.md R220 to R225, R233): the resets, the load that fails, the
run under fuel, and what every operation keeps. -/

namespace Sys2Proof.Machine

/-! ### Run under fuel -/

theorem run_notReady (fuel : Nat) {s : State} (h : s.rs ≠ .ready) : run fuel s = .next s := by
  cases fuel with
  | zero => rfl
  | succ n => rw [run, if_neg h]

theorem run_succ {s t : State} (fuel : Nat) (hrs : s.rs = .ready) (h : step s = .next t) :
    run (fuel + 1) s = run fuel t := by
  simp only [run, if_pos hrs, h]

theorem core_run_succ {s t : State} (k : Nat) (h : step s = .next t) :
    Sys2Proof.core.run (k + 1) s = Sys2Proof.core.run k t := by
  have hcore : Sys2Proof.core.step s = .next t := h
  simp only [Host.Core.run, hcore]

theorem core_run_notReady (k : Nat) {s : State} (h : s.rs ≠ .ready) :
    Sys2Proof.core.run k s = .next s := by
  induction k with
  | zero => rfl
  | succ k ih => rw [core_run_succ k (step_notReady h), ih]

theorem run_eq_core_run (fuel : Nat) (s : State) : run fuel s = Sys2Proof.core.run fuel s := by
  induction fuel generalizing s with
  | zero => rfl
  | succ n ih =>
    by_cases hrs : s.rs = .ready
    case pos =>
      obtain ⟨t, ht⟩ := exists_step s
      rw [run_succ n hrs ht, core_run_succ n ht, ih]
    case neg => exact (run_notReady _ hrs).trans (core_run_notReady _ hrs).symm

theorem run_add_of_stopped {fuel : Nat} {s t : State} (more : Nat) (h : run fuel s = .next t)
    (ht : t.rs ≠ .ready) : run (fuel + more) s = .next t := by
  induction fuel generalizing s with
  | zero =>
    cases h
    exact run_notReady _ ht
  | succ n ih =>
    by_cases hrs : s.rs = .ready
    case pos =>
      obtain ⟨u, hu⟩ := exists_step s
      rw [run_succ n hrs hu] at h
      rw [Nat.succ_add, run_succ _ hrs hu, ih h]
    case neg =>
      rw [run_notReady _ hrs] at h ⊢
      exact h

theorem run_inv {fuel : Nat} {s t : State} (hinv : s.Inv) (h : run fuel s = .next t) : t.Inv := by
  induction fuel generalizing s with
  | zero =>
    cases h
    exact hinv
  | succ n ih =>
    by_cases hrs : s.rs = .ready
    case pos =>
      obtain ⟨u, hu⟩ := exists_step s
      rw [run_succ n hrs hu] at h
      exact ih (((stepsTo_iff s u).mpr hu).inv hinv) h
    case neg =>
      rw [run_notReady _ hrs] at h
      cases h
      exact hinv

/-! ### Load -/

/-- All that a host load can do: copy the slice and report nothing, or set the fault record and report it. -/
theorem hostLoad_cases (addr : Word) (bytes : List Byte) (s : State) :
    hostLoad addr bytes s = ({ s with mem := s.mem.copy addr bytes }, none) ∨
    hostLoad addr bytes s =
      ({ s with fr := some (.indexOutOfBounds addr) }, some (.indexOutOfBounds addr)) := by
  by_cases hfit : addr.toNat + bytes.length ≤ 65536
  case pos => exact .inl (hostLoad_of_fits s hfit)
  case neg => exact .inr (hostLoad_of_not_fits s (Nat.not_le.mp hfit))

theorem hostLoad_rs (addr : Word) (bytes : List Byte) (s : State) :
    (hostLoad addr bytes s).1.rs = s.rs := by
  obtain h | h := hostLoad_cases addr bytes s <;> rw [h]

theorem hostLoad_inv (addr : Word) (bytes : List Byte) {s : State} (hinv : s.Inv) :
    (hostLoad addr bytes s).1.Inv := by
  obtain ⟨hwf, hrec⟩ := hinv
  obtain h | h := hostLoad_cases addr bytes s <;> rw [h]
  · exact ⟨Memory.copy_wf hwf addr bytes, hrec⟩
  · exact ⟨hwf, fun _ => nofun⟩

theorem loadProgram_of_fits {program : List Byte} (s : State) (h : program.length ≤ 32768) :
    loadProgram program s = ({ s with mem := s.mem.copy 0x8000#16 program }, none) := by
  apply hostLoad_of_fits
  have hbase : Config.programBase.toNat = 32768 := rfl
  omega

theorem loadProgram_of_not_fits {program : List Byte} (s : State) (h : 32768 < program.length) :
    loadProgram program s =
      ({ s with fr := some (.indexOutOfBounds 0x8000#16) }, some (.indexOutOfBounds 0x8000#16)) := by
  apply hostLoad_of_not_fits
  have hbase : Config.programBase.toNat = 32768 := rfl
  omega

theorem loadAndRun_of_fits {program : List Byte} (fuel : Nat) (s : State) (h : program.length ≤ 32768) :
    loadAndRun fuel program s =
      run fuel ({ s with mem := s.mem.copy 0x8000#16 program } : State).applyReset := by
  simp only [loadAndRun, loadProgram_of_fits s h]

theorem loadAndRun_of_not_fits {program : List Byte} (fuel : Nat) (s : State)
    (h : 32768 < program.length) :
    loadAndRun fuel program s = .next { s with fr := some (.indexOutOfBounds 0x8000#16) } := by
  simp only [loadAndRun, loadProgram_of_not_fits s h]

/-! ### Reset -/

theorem applyReset_inv {s : State} (hinv : s.Inv) : s.applyReset.Inv :=
  ⟨hinv.1, nofun⟩

/-- R228: without a vector the reset enters at 0. -/
theorem applyReset_of_zero_vector {s : State} (hlow : s.mem.read 0xFFFC#16 = 0x00#8)
    (hhigh : s.mem.read 0xFFFD#16 = 0x00#8) : s.applyReset = { State.reset with mem := s.mem } := by
  have hpc : s.mem.readU16 Config.resetVector = 0x0000#16 := by
    apply BitVec.eq_of_toNat_eq
    rw [Memory.readU16_toNat]
    exact congrArg₂ (fun lo hi : Byte => lo.toNat + 256 * hi.toNat) hlow hhigh
  rw [State.applyReset, hpc]
  rfl

/-- A program too short to reach the vector leaves the cells outside its slice zero. -/
theorem read_copy_program_outside {program : List Byte} (hlen : program.length ≤ 32764) {b : Word}
    (hb : b.toNat < 32768 ∨ 65532 ≤ b.toNat) :
    Memory.read (Memory.copy [] 0x8000#16 program) b = 0x00#8 := by
  have hbase : (0x8000#16).toNat = 32768 := rfl
  rw [Memory.read_copy_outside rfl (by omega) (by omega), Memory.read_nil]

/-! ### Every operation -/

theorem loadAndRun_inv {fuel : Nat} {program : List Byte} {s t : State} (hinv : s.Inv)
    (h : loadAndRun fuel program s = .next t) : t.Inv := by
  by_cases hfit : program.length ≤ 32768
  case pos =>
    have hloaded : State.Inv { s with mem := s.mem.copy 0x8000#16 program } :=
      ⟨Memory.copy_wf hinv.1 _ _, hinv.2⟩
    rw [loadAndRun_of_fits fuel s hfit] at h
    exact run_inv (applyReset_inv hloaded) h
  case neg =>
    rw [loadAndRun_of_not_fits fuel s (Nat.not_le.mp hfit)] at h
    cases h
    exact ⟨hinv.1, fun _ => nofun⟩

theorem setReg_inv {s : State} (hinv : s.Inv) (r : Reg) (v : Byte) : (s.setReg r v).Inv := by
  rwa [State.Inv, State.setReg_mem, State.setReg_rs, State.setReg_fr]

/-- The operations that can leave Halted and Faulted: they create a machine or reset it (R209). -/
def HostOp.Resets : HostOp → Prop
  | .create | .reset | .resetTest | .loadAndRun _ _ => True
  | _ => False

theorem apply_rs_of_stopped {op : HostOp} {s t : State} (hop : ¬ op.Resets) (hrs : s.rs ≠ .ready)
    (h : op.apply s = .next t) : t.rs = s.rs := by
  cases op with
  | create | reset | resetTest | loadAndRun => exact absurd trivial hop
  | loadProgram program => cases h; exact hostLoad_rs _ program s
  | load addr bytes => cases h; exact hostLoad_rs addr bytes s
  | writeReg r v => cases h; exact State.setReg_rs s r v
  | step => rw [HostOp.apply, step_notReady hrs] at h; cases h; rfl
  | run fuel => rw [HostOp.apply, run_notReady fuel hrs] at h; cases h; rfl
  | _ => cases h; rfl

theorem resets_cases {op : HostOp} (h : op.Resets) :
    op = .create ∨ op = .reset ∨ op = .resetTest ∨ ∃ fuel program, op = .loadAndRun fuel program := by
  cases op with
  | create => exact .inl rfl
  | reset => exact .inr (.inl rfl)
  | resetTest => exact .inr (.inr (.inl rfl))
  | loadAndRun fuel program => exact .inr (.inr (.inr ⟨fuel, program, rfl⟩))
  | _ => cases h

end Sys2Proof.Machine

open Sys2Proof Sys2Proof.Machine Sys2Proof.Forms

/-- Settles O9: a disabled step answers the same state, and so does its repetition. -/
theorem stoppedMachineKeepsItsState : Obligations.StoppedMachineKeepsItsState :=
  fun _ k hrs => ⟨step_notReady hrs, core_run_notReady k hrs⟩

/-- Settles O46: `run` stops where the repeated step would stay. -/
theorem runIsTheRepeatedStep : Obligations.RunIsTheRepeatedStep :=
  run_eq_core_run

/-- Settles O47, by induction on the fuel. -/
theorem finishedRunIsUnchangedByMoreFuel : Obligations.FinishedRunIsUnchangedByMoreFuel :=
  fun _ more _ _ => run_add_of_stopped more

/-- Settles O37: the failing branch of `load`, which is taken beyond 0x8000 + 32 768 for a program. -/
theorem loadOutOfBoundsIsRecorded : Obligations.LoadOutOfBoundsIsRecorded := by
  intro s bytes
  refine ⟨fun addr hover => ⟨_, hostLoad_of_not_fits s hover, rfl, rfl⟩, fun hover => ?_⟩
  rw [loadProgram_of_not_fits s hover]

/-- Settles O48: the load fails, so neither reset nor run is reached. -/
theorem loadAndRunOfAnOversizedProgramDoesNotRun :
    Obligations.LoadAndRunOfAnOversizedProgramDoesNotRun :=
  fun fuel _ s hover => ⟨_, loadAndRun_of_not_fits fuel s hover, rfl, rfl⟩

/-- Settles O39: each write is one update of the element it names. -/
theorem hostWritesTouchOnlyTheirTarget : Obligations.HostWritesTouchOnlyTheirTarget := by
  intro s r v w f b
  refine ⟨⟨s.setReg r v, rfl, State.reg_setReg_same s r v, fun _ => State.reg_setReg_of_ne s v, ?_⟩,
    ⟨s.setFlag f b, rfl, Status.get_set_same _ _ _, fun _ => Status.get_set_of_ne _ _, rfl⟩, rfl, rfl,
    fun hwf => ⟨s.store w v, rfl, ?_, fun c hc => ?_, rfl⟩⟩
  · cases r <;> rfl
  · rw [State.store_mem, Memory.read_write hwf, if_pos rfl]
  · rw [State.store_mem, Memory.read_write hwf, if_neg hc]

/-- Settles O40: both memories are empty lists, and neither machine is Faulted. -/
theorem safeInvariantHoldsAtReset : Obligations.SafeInvariantHoldsAtReset :=
  ⟨⟨reset_mem_wf, nofun⟩, create_mem_wf, nofun⟩

/-- Settles O42, operation by operation. -/
theorem hostOperationsKeepSafeInvariant : Obligations.HostOperationsKeepSafeInvariant := by
  intro op s t hinv h
  cases op with
  | create => cases h; exact safeInvariantHoldsAtReset.2
  | reset => cases h; exact applyReset_inv hinv
  | resetTest => cases h; exact applyReset_inv (s := s) hinv
  | loadProgram program => cases h; exact hostLoad_inv _ program hinv
  | load addr bytes => cases h; exact hostLoad_inv addr bytes hinv
  | write addr v => cases h; exact ⟨Memory.write_wf hinv.1 addr v, hinv.2⟩
  | writeU16 addr w => cases h; exact ⟨Memory.writeU16_wf hinv.1 addr w, hinv.2⟩
  | writeReg r v => cases h; exact setReg_inv hinv r v
  | setFlag | writeSp | writePc => cases h; exact hinv
  | step => exact ((stepsTo_iff s t).mpr h).inv hinv
  | run fuel => exact run_inv hinv h
  | loadAndRun fuel program => exact loadAndRun_inv hinv h

/-- Settles O43: every operation but the four that create or reset keeps RS of a stopped machine. -/
theorem onlyResetLeavesStoppedStates : Obligations.OnlyResetLeavesStoppedStates := by
  intro s
  refine ⟨fun op t hrs h hne => ?_, fun op hop => ?_⟩
  · by_contra hcases
    exact hne (apply_rs_of_stopped (fun hresets => hcases (resets_cases hresets)) hrs h)
  · fin_cases hop <;> exact ⟨_, rfl, rfl, rfl⟩

/-- Settles O44: the fields of the reset, its PC read as the two vector cells. -/
theorem resetValues : Obligations.ResetValues := by
  intro s
  exact ⟨s.applyReset, s.applyResetTest, rfl, rfl, rfl, rfl, rfl, rfl, Status.get_clear,
    Memory.readU16_toNat s.mem 0xFFFC#16, rfl, rfl, rfl, rfl⟩

/-- Settles O45: the two zero cells make the vector 0, and created memory has them. -/
theorem resetWithoutVectorEntersAtZero : Obligations.ResetWithoutVectorEntersAtZero :=
  ⟨fun _ hlow hhigh => congrArg _ (applyReset_of_zero_vector hlow hhigh),
    congrArg _ (applyReset_of_zero_vector (s := create) rfl rfl)⟩

/-- Settles O49: the vector cells and the cell at 0 are outside the program, so the machine enters at 0 and
its first instruction is the BRK there. -/
theorem loadAndRunWithoutVectorHaltsAtOnce : Obligations.LoadAndRunWithoutVectorHaltsAtOnce := by
  intro fuel program hlen
  have hzero (b : Word) (hb : b.toNat < 32768 ∨ 65532 ≤ b.toNat) :=
    read_copy_program_outside hlen hb
  have hbrk : step { State.reset with mem := Memory.copy [] 0x8000#16 program } = .next _ :=
    step_of_brk rfl (hzero 0x0000#16 (.inl (by decide)))
  rw [loadAndRun_of_fits _ _ (by omega),
    applyReset_of_zero_vector (hzero _ (.inr (by decide))) (hzero _ (.inr (by decide)))]
  exact (run_succ fuel rfl hbrk).trans (run_notReady fuel nofun)

end
